-- ==== Sys2Proof/Word.lean ====
section
/-! DEFINITION. The machine words and the plain containers of the Verowa 730: bytes on a line, the three
poles, one value for each pole, one value for each measured channel. -/

namespace Sys2Proof

/-- A byte on a serial line (spec/12 section 12.1). -/
abbrev Byte := BitVec 8

/-- A two-byte field. -/
abbrev Half := BitVec 16

/-- A four-byte field. -/
abbrev Wide := BitVec 32

/-- The three poles (spec/00, Conventions). On the wire a pole is 0 A, 1 B, 2 C (section 12.1). -/
inductive Pole where
  | a
  | b
  | c
  deriving DecidableEq, Repr, Inhabited

/-- One value for each of the poles A, B and C. -/
structure Tri (α : Type) where
  a : α
  b : α
  c : α
  deriving DecidableEq, Repr, Inhabited

/-- One value for each of the channels A, B, C and G. -/
structure Quad (α : Type) where
  a : α
  b : α
  c : α
  g : α
  deriving DecidableEq, Repr, Inhabited

/-- A set of poles, one mark for each pole. The spec's pole sets are the non-empty ones. -/
abbrev PoleSet := Tri Bool

namespace Tri

variable {α β γ : Type}

/-- The value of one pole. -/
def get (t : Tri α) : Pole → α
  | .a => t.a
  | .b => t.b
  | .c => t.c

/-- The triple with one pole's value replaced. -/
def set (t : Tri α) (p : Pole) (v : α) : Tri α :=
  match p with
  | .a => { t with a := v }
  | .b => { t with b := v }
  | .c => { t with c := v }

/-- The triple whose value at each pole is given by a function of the pole. -/
def of (f : Pole → α) : Tri α := { a := f .a, b := f .b, c := f .c }

/-- The same value for every pole. -/
def all (v : α) : Tri α := { a := v, b := v, c := v }

def map (f : α → β) (t : Tri α) : Tri β := { a := f t.a, b := f t.b, c := f t.c }

/-- The three values, A first. -/
def toList (t : Tri α) : List α := [t.a, t.b, t.c]

/-- The poles of a set, A first. -/
def poles (s : Tri Bool) : List Pole :=
  (if s.a then [Pole.a] else []) ++ (if s.b then [Pole.b] else []) ++ (if s.c then [Pole.c] else [])

def empty : Tri Bool := { a := false, b := false, c := false }

def full : Tri Bool := { a := true, b := true, c := true }

def single (p : Pole) : Tri Bool := empty.set p true

def union (x y : Tri Bool) : Tri Bool := { a := x.a || y.a, b := x.b || y.b, c := x.c || y.c }

def inter (x y : Tri Bool) : Tri Bool := { a := x.a && y.a, b := x.b && y.b, c := x.c && y.c }

def diff (x y : Tri Bool) : Tri Bool := { a := x.a && !y.a, b := x.b && !y.b, c := x.c && !y.c }

def isEmpty (x : Tri Bool) : Bool := !(x.a || x.b || x.c)

/-- The two sets share a pole. -/
def meets (x y : Tri Bool) : Bool := !(x.inter y).isEmpty

/-- Every pole of the first set is in the second. -/
def within (x y : Tri Bool) : Bool := (x.diff y).isEmpty

/-- How many poles the set holds. -/
def card (x : Tri Bool) : Nat := x.a.toNat + x.b.toNat + x.c.toNat

end Tri

namespace Quad

variable {α β : Type}

def map (f : α → β) (q : Quad α) : Quad β := { a := f q.a, b := f q.b, c := f q.c, g := f q.g }

def all (v : α) : Quad α := { a := v, b := v, c := v, g := v }

/-- The value of the channel of one pole. -/
def get (q : Quad α) : Pole → α
  | .a => q.a
  | .b => q.b
  | .c => q.c

def zip (f : α → β → β) (x : Quad α) (y : Quad β) : Quad β :=
  { a := f x.a y.a, b := f x.b y.b, c := f x.c y.c, g := f x.g y.g }

end Quad

end Sys2Proof
end

