-- ==== Sys2Proof/Syntax.lean ====
section
/-! DEFINITION. The commands of the Verowa 730: one constructor of `Instr` for each row of
spec/opcode_table.json. A command is something that reaches a block of the part: a measurement set, a
field input, a message on one of the three serial lines, the expiry of a timer, the completion of a
stroke or a store write, or the taking of a notice that one block has handed another.

A command that takes a notice carries no operand: the notice stands in the mail of the state, in the
order in which it was handed, and the command takes the oldest one. A command from outside carries what
the outside brings. -/

namespace Sys2Proof

/-- The debounced field inputs (R7): contacts a and b of each pole, the trip lever switch, the selector. -/
inductive FieldInput where
  /-- auxiliary contact a of a pole: closed while the main contacts are closed -/
  | contactA (p : Pole)
  /-- auxiliary contact b of a pole: closed while the main contacts are open -/
  | contactB (p : Pole)
  | lever
  | selector
  deriving DecidableEq, Repr, Inhabited

/-- The raw levels of the field inputs at one moment (R7): `true` is closed for a contact, TRIPPED for
the lever and REMOTE for the selector. -/
structure InputLevels where
  contactA : Tri Bool
  contactB : Tri Bool
  lever : Bool
  selector : Bool
  deriving DecidableEq, Repr, Inhabited

/-- The blocks that hand event records to the event queue (R133, R134). -/
inductive RecordSource where
  | startUp
  | measurement
  | timeBase
  | sequence
  | energy
  | tags
  | battery
  | retainedStore
  | settingsStore
  | stager
  | radio
  deriving DecidableEq, Repr, Inhabited

/-- The blocks that hand the stager a notice bearing on an apply point (R176). -/
inductive NoticeSource where
  /-- "at rest" and "not at rest", from the sequence controller -/
  | sequence
  /-- "test running" and "test not running", from the battery manager -/
  | battery
  /-- "transmitting" and "not transmitting", from the radio controller -/
  | radio
  deriving DecidableEq, Repr, Inhabited

/-- The commands, in the order of spec/opcode_table.json. -/
inductive Instr where
  /-- MEASUREMENT_SET (R1): the magnitudes the sense paths present, in amperes. -/
  | measurementSet (a b c g : Nat)
  /-- OVERCURRENT_EVALUATION (R21): the overcurrent unit takes the oldest set handed to it. -/
  | overcurrentEvaluation
  /-- HOT_LINE_ARMING (R32): the overcurrent unit takes "armed" or "disarmed". -/
  | hotLineArming
  /-- PEAK_MAGNITUDE_UPDATE (R40): the sequence controller takes the oldest set handed to it. -/
  | peakMagnitudeUpdate
  /-- CAPTURE_SET_WRITE (R162): the capture unit takes the oldest set handed to it. -/
  | captureSetWrite
  /-- SAMPLING_TIMER (R3): an expiry of the 100 ms sampling timer, with what the five slow channels
  present: battery voltage, battery current and bank voltage in the channels' units (10 mV, 10 mA),
  supply voltage in V, temperature in °C. -/
  | samplingTimer (vBatt iBatt vBank vSupply temp : Int)
  /-- AVERAGE_DELIVERY (R4): the 1 s average delivery of the tenth sampling expiry. -/
  | averageDelivery
  /-- DEBOUNCED_INPUT_CHANGE (R7): a raw field input that has stood at a level for so many ms. -/
  | debouncedInputChange (input : FieldInput) (level : Bool) (stood : Nat)
  /-- POLE_UNKNOWN (R8): expiry of the 200 ms agreement timer of a pole. -/
  | poleUnknown (p : Pole)
  /-- INPUTS_SETTLED (R7): ten ms after start, with the raw levels of that moment. -/
  | inputsSettled (levels : InputLevels)
  /-- TIME_BASE_TICK (R12): one millisecond. -/
  | timeBaseTick
  /-- COUNTER_READ (R11), a cabinet request. -/
  | counterRead (tag : Byte)
  /-- COUNTER_SET (R11), a cabinet request. -/
  | counterSet (tag pole : Byte) (value : Wide)
  /-- TIME_SET (R13), a cabinet request: a seconds count and the word that holds the milliseconds. -/
  | timeSet (tag : Byte) (seconds : Wide) (word : Half)
  /-- EVALUATION_RESULT (R39): the sequence controller takes the oldest evaluation result. -/
  | evaluationResult
  /-- GRANT_NOTICE (R47): the sequence controller takes the grant notice of a stroke. -/
  | grantNotice
  /-- STROKE_RESULT (R44): the sequence controller takes the result of a stroke. -/
  | strokeResult
  /-- CLOSE_REFUSAL (R47): the sequence controller takes the refusal of a close request. -/
  | closeRefusal
  /-- DEAD_TIME_EXPIRY (R46), for the records named. -/
  | deadTimeExpiry (ps : PoleSet)
  /-- CLOSE_WAIT_EXPIRY (R47), for the records named. -/
  | closeWaitExpiry (ps : PoleSet)
  /-- SEQUENCE_RESET (R49): expiry of the reclaim timer, for the records named. -/
  | sequenceReset (ps : PoleSet)
  /-- SEQUENCE_TAG_IN_FORCE (R53): the sequence controller takes "tag in force" or "hold-pending set". -/
  | sequenceTagInForce
  /-- SEQUENCE_TAG_REMOVED (R36): the sequence controller takes "tag removed" or "hold-pending cleared". -/
  | sequenceTagRemoved
  /-- POLE_TRIP (R54), a cabinet request. -/
  | poleTrip (tag set : Byte)
  /-- POLE_CLOSE (R55), a cabinet request. -/
  | poleClose (tag set : Byte)
  /-- SEQUENCE_LEVER_CHANGE (R57): the sequence controller takes a lever change. -/
  | sequenceLeverChange
  /-- SEQUENCE_POLE_CHANGE (R58): the sequence controller takes a pole-state change. -/
  | sequencePoleChange
  /-- TRIP_REQUEST_ARRIVAL (R64): the actuator and energy unit takes a trip request. -/
  | tripRequestArrival
  /-- CLOSE_REQUEST_ARRIVAL (R65): the actuator and energy unit takes a close request. -/
  | closeRequestArrival
  /-- REQUEST_WITHDRAWAL (R66): the actuator and energy unit takes a withdrawal. -/
  | requestWithdrawal
  /-- STROKE_POLE_CHANGE (R69): the actuator and energy unit takes a pole-state change. -/
  | strokePoleChange
  /-- STROKE_TIMEOUT (R69): expiry of the stroke timer. -/
  | strokeTimeout
  /-- SETTLE_TIME_EXPIRY (R71). -/
  | settleTimeExpiry
  /-- ENERGY_FAIL (R75): 2,000 ms without a grant, for the waiting trip request that holds the pole. -/
  | energyFail (p : Pole)
  /-- STROKE_LEVER_CHANGE (R70): the actuator and energy unit takes a lever change. -/
  | strokeLeverChange
  /-- ENERGY_TAG_SIGNAL (R76): the actuator and energy unit takes a tag signal. -/
  | energyTagSignal
  /-- POLE_FAIL_CLEAR (R77), a cabinet request. -/
  | poleFailClear (tag pole : Byte)
  /-- TAG_PLACE (R92), a cabinet request. -/
  | tagPlace (tag kind : Byte) (crew : Half)
  /-- TAG_REMOVE (R92), a cabinet request. -/
  | tagRemove (tag kind : Byte) (crew : Half)
  /-- TAG_LIST (R92), a cabinet request. -/
  | tagList (tag : Byte)
  /-- TOKEN_FRAME (R94): bytes arriving at the optical receiver up to the close of a frame. -/
  | tokenFrame (bytes : List Byte)
  /-- OPTICAL_FRAME_GAP (R94): more than 20 ms without a byte while a token frame is open. -/
  | opticalFrameGap
  /-- PLACE_HOT_LINE (R96): a valid token frame with this action: crew code and frame number. -/
  | placeHotLine (crew : Half) (number : Byte)
  /-- PLACE_DO_NOT_CLOSE (R96). -/
  | placeDoNotClose (crew : Half) (number : Byte)
  /-- REMOVE_HOT_LINE (R96). -/
  | removeHotLine (crew : Half) (number : Byte)
  /-- REMOVE_DO_NOT_CLOSE (R96). -/
  | removeDoNotClose (crew : Half) (number : Byte)
  /-- REMOVE_SYSTEM_HOLD (R96). -/
  | removeSystemHold (crew : Half) (number : Byte)
  /-- QUERY (R97). -/
  | query (crew : Half) (number : Byte)
  /-- OPTICAL_REPLY_SENT (R96): the last byte of the optical reply has gone. -/
  | opticalReplySent
  /-- BLOCK_RESTART_OPTICAL (R98), a cabinet request BLOCK_RESTART naming OPTICAL. -/
  | blockRestartOptical (tag : Byte)
  /-- RETAINED_WRITE_COMPLETE (R122): the read-back agreed, or it did not (`fault`). -/
  | retainedWriteComplete (fault : Bool)
  /-- POWER_ON_START (R126). -/
  | powerOnStart
  /-- RESET_PIN_ASSERT (R126). -/
  | resetPinAssert
  /-- RESET_PIN_RELEASE (R126). -/
  | resetPinRelease
  /-- DARK (R119). -/
  | dark
  /-- START_UP_READS (R127): the reads of the retained record and the settings blocks complete. -/
  | startUpReads
  /-- SETTINGS_WRITE_COMPLETE (R128): the read-back agreed, or it did not (`fault`). -/
  | settingsWriteComplete (fault : Bool)
  /-- BATTERY_TEST_TIMER (R107). -/
  | batteryTestTimer
  /-- REST_TIMER_EXPIRY (R109). -/
  | restTimerExpiry
  /-- LOAD_TIMER_EXPIRY (R110). -/
  | loadTimerExpiry
  /-- RETRY_TIMER_EXPIRY (R113). -/
  | retryTimerExpiry
  /-- ABSORB_TIMER_EXPIRY (R102). -/
  | absorbTimerExpiry
  /-- BATTERY_REST_NOTICE (R108): the battery manager takes a notice of the sequence controller. -/
  | batteryRestNotice
  /-- BANK_FULL_NOTICE (R108): the battery manager takes "bank full" or "bank not full". -/
  | bankFullNotice
  /-- CREW_VISIT_WINDOW_EXPIRY (R118). -/
  | crewVisitWindowExpiry
  /-- BATTERY_TEST_START (R114), a cabinet request. -/
  | batteryTestStart (tag : Byte)
  /-- BATTERY_RESULT_GET (R114), a cabinet request. -/
  | batteryResultGet (tag : Byte)
  /-- BLOCK_RESTART_BATTERY_TEST (R114), a cabinet request BLOCK_RESTART naming BATTERY_TEST. -/
  | blockRestartBatteryTest (tag : Byte)
  /-- RECORD_ARRIVAL (R134): the event queue takes the oldest record a block has raised. -/
  | recordArrival (source : RecordSource)
  /-- EVENT_FETCH (R142), a cabinet request. -/
  | eventFetch (tag wait : Byte)
  /-- FETCH_WAIT_EXPIRY (R143). -/
  | fetchWaitExpiry
  /-- TX_RESULT (R152): a modem frame of this kind, as its tag, body and CRC. -/
  | txResult (tag : Byte) (body : List Byte) (crc : Half)
  /-- MODEM_TIMEOUT (R146). -/
  | modemTimeout
  /-- RECOVERY_TIMER_EXPIRY (R146). -/
  | recoveryTimerExpiry
  /-- READY_WAIT_EXPIRY (R148). -/
  | readyWaitExpiry
  /-- MODEM_READY (R148): a modem frame of this kind, as its tag, body and CRC. -/
  | modemReady (tag : Byte) (body : List Byte) (crc : Half)
  /-- MODEM_PERMISSION_CHANGE (R148): the radio controller takes a change of modem permission. -/
  | modemPermissionChange
  /-- REFILL_TIMER (R149). -/
  | refillTimer
  /-- ACK_WAIT_EXPIRY (R153): the next try time of the record with this number is reached. -/
  | ackWaitExpiry (number : Half)
  /-- STATUS_TIMER (R157). -/
  | statusTimer
  /-- RX_PACKET (R155): a modem frame of this kind, as its tag, body (one packet) and CRC. -/
  | rxPacket (tag : Byte) (body : List Byte) (crc : Half)
  /-- ACK (R156), a master-station command: its number and its body. -/
  | ack (number : Byte) (body : List Byte)
  /-- POLL (R156). -/
  | poll (number : Byte)
  /-- TRIP_COMMAND (R54). -/
  | tripCommand (number set : Byte)
  /-- CLOSE_COMMAND (R55). -/
  | closeCommand (number set : Byte)
  /-- BLOCK_SET (R93). -/
  | blockSet (number : Byte)
  /-- BLOCK_CLEAR (R93). -/
  | blockClear (number : Byte)
  /-- TIME_SYNC (R13). -/
  | timeSync (number : Byte) (seconds : Wide) (word : Half)
  /-- TAG_QUERY (R93). -/
  | tagQuery (number : Byte)
  /-- BLOCK_RESTART_RADIO (R160), a cabinet request BLOCK_RESTART naming RADIO. -/
  | blockRestartRadio (tag : Byte)
  /-- CAPTURE_LIST (R164), a cabinet request. -/
  | captureList (tag : Byte)
  /-- CAPTURE_READ (R165), a cabinet request: capture id and start index. -/
  | captureRead (tag : Byte) (id index : Half)
  /-- CAPTURE_READ_NEXT (R165), a cabinet request. -/
  | captureReadNext (tag : Byte)
  /-- CAPTURE_RELEASE (R166), a cabinet request. -/
  | captureRelease (tag : Byte) (id : Half)
  /-- BLOCK_RESTART_CAPTURE (R168), a cabinet request BLOCK_RESTART naming CAPTURE. -/
  | blockRestartCapture (tag : Byte)
  /-- REQUEST_FRAME (R170): bytes arriving at the cabinet receiver up to the close of a frame. -/
  | requestFrame (bytes : List Byte)
  /-- CABINET_FRAME_GAP (R169): more than 10 ms without a byte while a frame is open. -/
  | cabinetFrameGap
  /-- CABINET_POWER_OFF (R171): the cabinet link controller takes "cabinet power off". -/
  | cabinetPowerOff
  /-- CABINET_POWER_ON (R171): the cabinet link controller takes "cabinet power on". -/
  | cabinetPowerOn
  /-- ATTN_GET (R172), a cabinet request. -/
  | attnGet (tag : Byte)
  /-- ATTN_CLEAR (R172), a cabinet request. -/
  | attnClear (tag flags : Byte)
  /-- ATTN_MASK (R172), a cabinet request. -/
  | attnMask (tag mask : Byte)
  /-- STATUS_GET (R174), a cabinet request. -/
  | statusGet (tag : Byte)
  /-- STATUS_CLEAR (R56), a cabinet request. -/
  | statusClear (tag : Byte)
  /-- SETTINGS_WRITE (R175), a cabinet request: block name, curve id and content. -/
  | settingsWrite (tag block curve : Byte) (content : List Byte)
  /-- SETTINGS_READ (R177), a cabinet request. -/
  | settingsRead (tag block curve : Byte)
  /-- STAGE_GET (R177), a cabinet request. -/
  | stageGet (tag : Byte)
  /-- STAGE_DISCARD (R177), a cabinet request. -/
  | stageDiscard (tag : Byte)
  /-- STAGER_NOTICE (R176): the stager takes the oldest notice of a block. -/
  | stagerNotice (source : NoticeSource)
  /-- CABINET_FRAME_DROPPED (R169): bytes arriving at the cabinet receiver up to the drop of a frame. -/
  | cabinetFrameDropped (bytes : List Byte)
  deriving DecidableEq, Repr

end Sys2Proof
end

