-- ==== Sys2Proof/WellFormed.lean ====
section
/-! DEFINITION. The well-formed commands: those that something outside the part, or a block of it, can
bring. A pole set names at least one pole (spec/00, Conventions), a run of bytes holds at least one byte,
and a body has a length that its frame or packet can carry (R145, section 12.2). Every command has a
meaning, well-formed or not. -/

namespace Sys2Proof

/-- The operands of a command are ones that can occur. -/
def Instr.wellFormed : Instr → Bool
  | .measurementSet _ _ _ _ => true
  | .overcurrentEvaluation => true
  | .hotLineArming => true
  | .peakMagnitudeUpdate => true
  | .captureSetWrite => true
  | .samplingTimer _ _ _ _ _ => true
  | .averageDelivery => true
  | .debouncedInputChange _ _ _ => true
  | .poleUnknown _ => true
  | .inputsSettled _ => true
  | .timeBaseTick => true
  | .counterRead _ => true
  | .counterSet _ _ _ => true
  | .timeSet _ _ _ => true
  | .evaluationResult => true
  | .grantNotice => true
  | .strokeResult => true
  | .closeRefusal => true
  | .deadTimeExpiry ps => !ps.isEmpty
  | .closeWaitExpiry ps => !ps.isEmpty
  | .sequenceReset ps => !ps.isEmpty
  | .sequenceTagInForce => true
  | .sequenceTagRemoved => true
  | .poleTrip _ _ => true
  | .poleClose _ _ => true
  | .sequenceLeverChange => true
  | .sequencePoleChange => true
  | .tripRequestArrival => true
  | .closeRequestArrival => true
  | .requestWithdrawal => true
  | .strokePoleChange => true
  | .strokeTimeout => true
  | .settleTimeExpiry => true
  | .energyFail _ => true
  | .strokeLeverChange => true
  | .energyTagSignal => true
  | .poleFailClear _ _ => true
  | .tagPlace _ _ _ => true
  | .tagRemove _ _ _ => true
  | .tagList _ => true
  | .tokenFrame bytes => !bytes.isEmpty
  | .opticalFrameGap => true
  | .placeHotLine _ _ => true
  | .placeDoNotClose _ _ => true
  | .removeHotLine _ _ => true
  | .removeDoNotClose _ _ => true
  | .removeSystemHold _ _ => true
  | .query _ _ => true
  | .opticalReplySent => true
  | .blockRestartOptical _ => true
  | .retainedWriteComplete _ => true
  | .powerOnStart => true
  | .resetPinAssert => true
  | .resetPinRelease => true
  | .dark => true
  | .startUpReads => true
  | .settingsWriteComplete _ => true
  | .batteryTestTimer => true
  | .restTimerExpiry => true
  | .loadTimerExpiry => true
  | .retryTimerExpiry => true
  | .absorbTimerExpiry => true
  | .batteryRestNotice => true
  | .bankFullNotice => true
  | .crewVisitWindowExpiry => true
  | .batteryTestStart _ => true
  | .batteryResultGet _ => true
  | .blockRestartBatteryTest _ => true
  | .recordArrival _ => true
  | .eventFetch _ _ => true
  | .fetchWaitExpiry => true
  | .txResult _ body _ => decide (body.length < 256)
  | .modemTimeout => true
  | .recoveryTimerExpiry => true
  | .readyWaitExpiry => true
  | .modemReady _ body _ => decide (body.length < 256)
  | .modemPermissionChange => true
  | .refillTimer => true
  | .ackWaitExpiry _ => true
  | .statusTimer => true
  | .rxPacket _ body _ => decide (body.length < 256)
  | .ack _ body => decide (body.length ≤ 198)
  | .poll _ => true
  | .tripCommand _ _ => true
  | .closeCommand _ _ => true
  | .blockSet _ => true
  | .blockClear _ => true
  | .timeSync _ _ _ => true
  | .tagQuery _ => true
  | .blockRestartRadio _ => true
  | .captureList _ => true
  | .captureRead _ _ _ => true
  | .captureReadNext _ => true
  | .captureRelease _ _ => true
  | .blockRestartCapture _ => true
  | .requestFrame bytes => !bytes.isEmpty
  | .cabinetFrameGap => true
  | .cabinetPowerOff => true
  | .cabinetPowerOn => true
  | .attnGet _ => true
  | .attnClear _ _ => true
  | .attnMask _ _ => true
  | .statusGet _ => true
  | .statusClear _ => true
  | .settingsWrite _ _ _ content => decide (content.length ≤ 238)
  | .settingsRead _ _ _ => true
  | .stageGet _ => true
  | .stageDiscard _ => true
  | .stagerNotice _ => true
  | .cabinetFrameDropped bytes => !bytes.isEmpty

end Sys2Proof
end

