-- ==== Sys2Proof/Decode.lean ====
section
/-! DEFINITION. The reading of a command from the bits of a row of spec/opcode_table.json. The table gives
no row any bits: no command of this part is a word. The byte forms that frames and packets have on the
lines are read where they arrive, in Machine/CabinetOps, Machine/RadioOps and Machine/Optical. -/

namespace Sys2Proof

/-- The command that a word of the table's bits spells: none, for no row has bits. -/
def decodeTableWord (nbits w : Nat) : Option Instr :=
  match nbits, w with
  | _, _ => none

end Sys2Proof
end

