-- ==== Sys2Proof/Machine/Types.lean ====
section
/-! DEFINITION. The plain data of the blocks of the Verowa 730: settings blocks, event records, the
records each block owns, and the mail in which one block's notices to another wait to be taken. -/

namespace Sys2Proof.Machine

/-! ## Time -/

/-- A time-base stamp with its SYNCED flag (R12, R14). -/
structure Stamp where
  seconds : Nat
  ms : Nat
  synced : Bool
  deriving DecidableEq, Repr, Inhabited

/-! ## Measurement -/

/-- Pole state (R8). -/
inductive PoleState where
  | closed
  | opened
  | unknown
  deriving DecidableEq, Repr, Inhabited

/-- A measurement set (R1). `index` counts the sets delivered since start, from 1, and `time` is the
elapsed time of the delivery: both name the set where a later notice refers to it (R39, R163). -/
structure MeasSet where
  index : Nat
  time : Nat
  mag : Quad Nat
  sat : Quad Bool
  deriving DecidableEq, Repr, Inhabited

/-- The windows of the five slow channels (R3), newest sample last, at most ten samples each. -/
structure SlowWindows where
  vBatt : List Int
  iBatt : List Int
  vBank : List Int
  vSupply : List Int
  temp : List Int
  deriving DecidableEq, Repr, Inhabited

/-- The five 1 s averages (R4). `temp` is `none` where the average is marked FAULT (R6). -/
structure Averages where
  vBatt : Int
  iBatt : Int
  vBank : Int
  vSupply : Int
  temp : Option Int
  deriving DecidableEq, Repr, Inhabited

/-- The debounced states of the field inputs (R7). -/
structure Inputs where
  contactA : Tri Bool
  contactB : Tri Bool
  leverTripped : Bool
  selectorRemote : Bool
  deriving DecidableEq, Repr, Inhabited

/-- A reply that an owner owes to a cabinet request until a retained write completes (R11, R77).
`covered` is set when a write that holds the change starts (R122). -/
structure OwedWrite where
  request : Nat
  covered : Bool
  deriving DecidableEq, Repr, Inhabited

/-! ## Settings blocks (chapter 2.2, R79, R105, section 9.8, section 10.4) -/

/-- Reset mode (section 2.2). -/
inductive ResetMode where
  | instant
  | decay
  deriving DecidableEq, Repr, Inhabited

/-- Trip mode (section 2.2). -/
inductive TripMode where
  | ganged
  | single
  deriving DecidableEq, Repr, Inhabited

/-- Speed class of an operation (section 2.2). -/
inductive SpeedClass where
  | fast
  | delayed
  deriving DecidableEq, Repr, Inhabited

/-- The settings of one operation (section 2.2). -/
structure OpSettings where
  phaseCurve : Nat
  groundCurve : Nat
  tm : Nat
  adder : Nat
  speed : SpeedClass
  instOn : Bool
  instMult : Nat
  instDelay : Nat
  deriving DecidableEq, Repr, Inhabited

/-- The PROTECTION settings block (section 2.2, section 12.6). Levels are in 10 mV. -/
structure Protection where
  ip : Nat
  gp : Nat
  hotPickup : Nat
  opsToLockout : Nat
  resetMode : ResetMode
  resetTime : Nat
  dead1 : Nat
  dead2 : Nat
  dead3 : Nat
  reclaim : Nat
  coordination : Bool
  tripMode : TripMode
  maintenance : Nat
  trip1 : Nat
  trip2 : Nat
  trip3 : Nat
  close1 : Nat
  close2 : Nat
  close3 : Nat
  op1 : OpSettings
  op2 : OpSettings
  op3 : OpSettings
  op4 : OpSettings
  deriving DecidableEq, Repr, Inhabited

/-- A point of a curve (R15): multiple in sixteenths, operate time in ms. -/
structure CurvePoint where
  m16 : Nat
  t : Nat
  deriving DecidableEq, Repr, Inhabited

/-- A curve (R15): its points in order; the empty list is the empty curve. -/
abbrev Curve := List CurvePoint

/-- The BATTERY settings block (R105). Voltages in 10 mV, currents in 10 mA. -/
structure BatterySettings where
  float25 : Nat
  absorb25 : Nat
  bulk : Nat
  absorbMin : Nat
  tail : Nat
  k : Nat
  testPeriod : Nat
  rLimit : Nat
  vMin : Nat
  deriving DecidableEq, Repr, Inhabited

/-- The RADIO settings block (section 9.8). Bit n of the kind filter stands for kind code n. -/
structure RadioSettings where
  own : Nat
  master : Nat
  bitRate : Nat
  keyOverhead : Nat
  refill : Nat
  cap : Nat
  statusPeriod : Nat
  ackBase : Nat
  filter : Nat
  deriving DecidableEq, Repr, Inhabited

/-- An entry of the crew roster (R79). -/
structure RosterEntry where
  code : Nat
  supervisor : Bool
  deriving DecidableEq, Repr, Inhabited

/-- The CAPTURE settings block (section 10.4). -/
structure CaptureSettings where
  segments : Nat
  pre : Nat
  post : Nat
  deriving DecidableEq, Repr, Inhabited

/-- The name of a settings block (section 11.4). -/
inductive BlockName where
  | protection
  | curve (n : Fin 12)
  | battery
  | radio
  | roster
  | capture
  deriving DecidableEq, Repr, Inhabited

/-- The content of a settings block. -/
inductive BlockContent where
  | protection (p : Protection)
  | curve (n : Fin 12) (c : Curve)
  | battery (b : BatterySettings)
  | radio (r : RadioSettings)
  | roster (r : List RosterEntry)
  | capture (c : CaptureSettings)
  deriving DecidableEq, Repr, Inhabited

/-- The settings blocks in force. -/
structure InForce where
  prot : Protection
  curves : Vector Curve 12
  battery : BatterySettings
  radio : RadioSettings
  roster : List RosterEntry
  capture : CaptureSettings
  deriving DecidableEq, Repr

/-- A stored copy of a settings block: its content and the CRC-16 stored with it (R128). -/
structure StoredBlock where
  content : BlockContent
  crc : Half
  deriving DecidableEq, Repr, Inhabited

/-! ## Overcurrent unit (chapter 2) -/

/-- State of an element (section 2.3). -/
inductive ElementState where
  | idle
  | pickedUp
  | operated
  deriving DecidableEq, Repr, Inhabited

/-- A phase or ground element (section 2.3): state, trip-progress accumulator in millionths, INST count,
count of sets picked up. A held element is in IDLE with all three at 0 (R21). -/
structure Element where
  state : ElementState
  progress : Nat
  instCount : Nat
  sets : Nat
  deriving DecidableEq, Repr, Inhabited

/-- The overcurrent unit's own state: the phase elements, the ground element, the hot-line parts and
their arming (R21, R32). -/
structure Overcurrent where
  phase : Tri Element
  ground : Element
  hot : Tri ElementState
  armed : Bool
  deriving DecidableEq, Repr, Inhabited

/-- The name of an element (R33). -/
inductive ElementId where
  | phase (p : Pole)
  | ground
  | hot (p : Pole)
  deriving DecidableEq, Repr, Inhabited

/-- How an element operated (R31, R33), in the order of the table of R33. -/
inductive OperateName where
  | phaseToc
  | phaseInst
  | groundToc
  | groundInst
  | hotLine
  deriving DecidableEq, Repr, Inhabited

/-- An entry of an evaluation result (R33). -/
inductive Report where
  | pickup (e : ElementId) (poles : PoleSet) (op : Nat)
  | dropOut (e : ElementId) (poles : PoleSet) (held : Bool) (sets : Nat)
  | operate (e : ElementId) (poles : PoleSet) (op : Nat) (name : OperateName) (trip : PoleSet)
  deriving DecidableEq, Repr, Inhabited

/-- An evaluation result (R33): the set it belongs to, its entries, and the name and operation number
of the leading OPERATE entry (R34). -/
structure EvalResult where
  set : MeasSet
  entries : List Report
  leading : Option (OperateName × Nat)
  deriving DecidableEq, Repr, Inhabited

/-! ## Sequence controller (chapter 3) -/

/-- State of a sequence record (R35). -/
inductive SeqState where
  | rest
  | timing
  | tripping
  | deadTime
  | closeWait
  | closing
  | reclaim
  | lockout
  deriving DecidableEq, Repr, Inhabited

/-- Which of its timers a record runs (R35). -/
inductive SeqTimerKind where
  | dead
  | closeWait
  | reclaim
  deriving DecidableEq, Repr, Inhabited

/-- The timer of a record: its kind and the elapsed time at which it expires. -/
structure SeqTimer where
  kind : SeqTimerKind
  deadline : Nat
  deriving DecidableEq, Repr, Inhabited

/-- Lockout cause (R35, R37). -/
inductive LockoutCause where
  | protection
  | tag
  | command
  | lever
  | externalOpen
  | failToOpen
  | failToClose
  | noEnergy
  | startOpen
  | threePole
  deriving DecidableEq, Repr, Inhabited

/-- The source of a trip or close command (R54, R55). -/
inductive CmdSource where
  | cabinet
  | radio
  deriving DecidableEq, Repr, Inhabited

/-- The state a record entered TIMING from (R35). -/
inductive TimingOrigin where
  | rest
  | reclaim
  deriving DecidableEq, Repr, Inhabited

/-- Close origin (R35). -/
inductive CloseOrigin where
  | protection
  | commandCabinet
  | commandRadio
  deriving DecidableEq, Repr, Inhabited

/-- The answer of the capture unit to a trigger (R163). -/
inductive CaptureAnswer where
  | id (n : Nat)
  | missed
  deriving DecidableEq, Repr, Inhabited

/-- Outcome note (R35). -/
inductive OutcomeNote where
  | command (source : CmdSource)
  | externalOpen
  deriving DecidableEq, Repr, Inhabited

/-- The rule that set a record's trip after close mark (R48): R54 with its command, or R47 and R51,
under which the record keeps its LOCKOUT. -/
inductive TripAfter where
  | command (source : CmdSource)
  | threePole
  deriving DecidableEq, Repr, Inhabited

/-- The elements up of a record (R35). -/
structure ElementSet where
  phase : Tri Bool
  ground : Bool
  hot : Tri Bool
  deriving DecidableEq, Repr, Inhabited

/-- A trip in hand (R35, R43). `wait` is the energy wait of the first grant (R44), once granted. -/
structure TripInHand where
  op : Nat
  name : OperateName
  time : Nat
  wait : Option Nat
  deriving DecidableEq, Repr, Inhabited

/-- A sequence record (R35). -/
structure SeqRecord where
  state : SeqState
  shot : Nat
  /-- operations to lockout in force -/
  lockOps : Nat
  timer : Option SeqTimer
  cause : Option LockoutCause
  lastOp : Option OperateName
  up : ElementSet
  origin : Option TimingOrigin
  longest : Nat
  /-- pickup start time: the elapsed time of the set of the pickup -/
  pickupTime : Option Nat
  /-- the index of the set of the pickup, which R40 compares sets with -/
  pickupSet : Nat
  peaks : Quad Nat
  peakSat : Quad Bool
  trip : Option TripInHand
  capture : Option CaptureAnswer
  closeOrigin : Option CloseOrigin
  note : Option OutcomeNote
  tripAfter : Option TripAfter
  deriving DecidableEq, Repr, Inhabited

/-- The kinds of tag (section 5.1). -/
inductive TagKind where
  | hotLine
  | doNotClose
  | remoteBlock
  | systemHold
  deriving DecidableEq, Repr, Inhabited

/-- One mark for each kind of tag. -/
structure KindMarks where
  hotLine : Bool
  doNotClose : Bool
  remoteBlock : Bool
  systemHold : Bool
  deriving DecidableEq, Repr, Inhabited

/-- The sequence controller's summary of the tag kinds held and of hold-pending (R36). -/
structure TagSummary where
  kinds : KindMarks
  hold : Bool
  deriving DecidableEq, Repr, Inhabited

/-- Origin of a stroke request (R63). -/
inductive StrokeOrigin where
  | protection
  | commandCabinet
  | commandRadio
  | threePole
  deriving DecidableEq, Repr, Inhabited

/-- A trip request whose first attempt missed poles and whose second attempt is not yet final (R44,
R45): the poles whose records have joined the request with a trip in hand, the poles of the request,
those that opened, and those being retried. -/
structure RetryGroup where
  joined : PoleSet
  poles : PoleSet
  opened : PoleSet
  missed : PoleSet
  deriving DecidableEq, Repr, Inhabited

/-- The sequence controller. `created` tells whether the start-up procedure has made the records (R35),
`view` is the pole state of each pole as last handed to the sequence controller, `lastSet` the index of
the last measurement set it took, `saidAtRest` the last report of protection at rest (R38). -/
structure Sequence where
  created : Bool
  recs : Tri SeqRecord
  summary : TagSummary
  blockedSeen : Bool
  view : Tri PoleState
  lastSet : Nat
  retries : List RetryGroup
  saidAtRest : Bool
  deriving DecidableEq, Repr, Inhabited

/-! ## Actuator and energy unit (chapter 4) -/

/-- Bank charger state (R60). -/
inductive BankCharger where
  | charging
  | full
  | held
  deriving DecidableEq, Repr, Inhabited

/-- Kind of stroke (R63). -/
inductive StrokeKind where
  | trip
  | close
  deriving DecidableEq, Repr, Inhabited

/-- An entry of the stroke request queue (R63). `joined` holds the poles whose records have joined the
request with a trip in hand (R43, R44): the origin does not tell them, since a merged request keeps the
origin of the oldest (R64). -/
structure StrokeRequest where
  kind : StrokeKind
  poles : PoleSet
  origin : StrokeOrigin
  joined : PoleSet
  arrival : Nat
  attempt : Nat
  alarm : Bool
  deriving DecidableEq, Repr, Inhabited

/-- The stroke in flight (R69). `joined` is that of its request, `pulse` tells whether the drive pulse is on
(R70), `deadline` is the elapsed time at which the stroke timer expires. -/
structure Stroke where
  kind : StrokeKind
  poles : PoleSet
  drive : PoleSet
  origin : StrokeOrigin
  joined : PoleSet
  attempt : Nat
  bankAtGrant : Nat
  cut : Bool
  pulse : Bool
  deadline : Nat
  deriving DecidableEq, Repr, Inhabited

/-- The actuator and energy unit. `view` is the pole state of each pole as last taken by the unit, and
`bankFullSaid` its last "bank full" or "bank not full" notice (R61). -/
structure Energy where
  bank : Nat
  charger : BankCharger
  bankFullSaid : Bool
  queue : List StrokeRequest
  stroke : Option Stroke
  settle : Option Nat
  failed : Tri Bool
  view : Tri PoleState
  owed : List OwedWrite
  deriving DecidableEq, Repr, Inhabited

/-! ## Tag controller and optical port (chapter 5) -/

/-- Where a placement or removal came from (R81). -/
inductive TagSource where
  | optical
  | cabinet
  | radio
  | internal
  deriving DecidableEq, Repr, Inhabited

/-- Where the answer of an accepted placement or removal goes (R84, R86): nowhere for INTERNAL, to the
cabinet request or the optical frame of this number, or into the radio reply slot. -/
inductive ReplyTo where
  | nobody
  | cabinet (request : Nat)
  | optical (frame : Nat)
  | radio (command number : Byte)
  deriving DecidableEq, Repr, Inhabited

/-- The removal part of a tag entry (R81). -/
structure Removal where
  source : TagSource
  code : Option Nat
  supervisor : Bool
  replyTo : ReplyTo
  deriving DecidableEq, Repr, Inhabited

/-- Write mark of a tag entry (R81, R87). -/
inductive WriteMark where
  | none
  | held
  | left
  deriving DecidableEq, Repr, Inhabited

/-- An entry of the tag table (R81). -/
structure TagEntry where
  kind : TagKind
  crew : Option Nat
  source : TagSource
  placedAt : Stamp
  retained : Bool
  reported : Bool
  removal : Option Removal
  mark : WriteMark
  replyTo : ReplyTo
  deriving DecidableEq, Repr, Inhabited

/-- Status of a tag entry in a tag list (R92). -/
inductive TagStatus where
  | settled
  | placing
  | removing
  deriving DecidableEq, Repr, Inhabited

/-- One entry of the tag content of TAG_LIST and TAG_QUERY (R92). -/
structure TagLine where
  kind : TagKind
  crew : Option Nat
  source : TagSource
  placedAt : Stamp
  retained : Bool
  status : TagStatus
  deriving DecidableEq, Repr, Inhabited

/-- The tag controller. -/
structure Tags where
  table : List TagEntry
  holdPending : Bool
  deriving DecidableEq, Repr, Inhabited

/-- Result codes (section 11.1), in the order of the result code table. -/
inductive ResultCode where
  | ok
  | okNotRetained
  | accepted
  | empty
  | busy
  | badKind
  | badLength
  | badIndex
  | badValue
  | stageFull
  | notFrozen
  | refusedLocal
  | refusedLever
  | refusedTag
  | refusedEnergy
  | refusedState
  | notRostered
  | alreadyHeld
  | tableFull
  | notHeld
  | refusedSource
  deriving DecidableEq, Repr, Inhabited

/-- A valid token frame in the receive buffer (R94, R95). `id` is the model's own number of the frame,
which an accepted placement or removal answers to. -/
structure TokenFrame where
  id : Nat
  crew : Half
  action : Byte
  number : Byte
  deriving DecidableEq, Repr, Inhabited

/-- A reply on the optical port (R97). `lines` is present for QUERY. -/
structure OpticalReply where
  crew : Half
  action : Byte
  number : Byte
  result : ResultCode
  count : Nat
  hold : Bool
  lines : Option (List TagLine)
  deriving DecidableEq, Repr, Inhabited

/-- The optical port: the bytes of the open frame (empty when no frame is open) and the elapsed time of
the last byte, the receive buffer with the frame in service at its head, the reply being sent, the
overrun note, and the replies sent since start. -/
structure Optical where
  openBytes : List Byte
  lastByte : Nat
  buffer : List TokenFrame
  sending : Option OpticalReply
  overrun : Bool
  nextFrame : Nat
  sent : List OpticalReply
  deriving DecidableEq, Repr, Inhabited

/-! ## Battery manager (chapter 6) -/

/-- The charger drive, a field output (R99): off, a current held with a voltage it does not pass, or a
voltage held with a current it does not pass. Currents and voltages are in the units of the BATTERY block
and of the targets. -/
inductive ChargerDrive where
  | off
  | currentHeld (current : Nat) (ceiling : Int)
  | voltageHeld (voltage : Int) (limit : Nat)
  deriving DecidableEq, Repr, Inhabited

/-- Battery charger state (R99). -/
inductive ChargerState where
  | off
  | bulk
  | absorb
  | float
  | testRest
  | fault
  deriving DecidableEq, Repr, Inhabited

/-- Power state (R115). -/
inductive PowerState where
  | run
  | shedRadio
  | shedHost
  | holdover
  deriving DecidableEq, Repr, Inhabited

/-- Battery test state (R106). -/
inductive TestState where
  | idle
  | waiting
  | testRest
  | loaded
  | retryWait
  deriving DecidableEq, Repr, Inhabited

/-- Kind of battery test (R106). -/
inductive TestKind where
  | scheduled
  | requested
  deriving DecidableEq, Repr, Inhabited

/-- Verdict of a battery test (R111). -/
inductive Verdict where
  | pass
  | weak
  | fail
  | invalid
  | aborted
  | notRun
  deriving DecidableEq, Repr, Inhabited

/-- Abort cause of a battery test (R112). -/
inductive AbortCause where
  | departure
  | powerState
  | chargerFault
  | restart
  deriving DecidableEq, Repr, Inhabited

/-- Result record of a battery test (R111): voltages in 10 mV, current in 10 mA, resistance in mΩ. -/
structure TestRecord where
  verdict : Verdict
  kind : TestKind
  v0 : Option Int
  v1 : Option Int
  i1 : Option Int
  r : Option Nat
  cause : Option AbortCause
  phase : Option TestState
  time : Stamp
  deriving DecidableEq, Repr, Inhabited

/-- The compensated targets (R101), in 10 mV. -/
structure Targets where
  absorb : Int
  float : Int
  deriving DecidableEq, Repr, Inhabited

/-- The battery manager. Timers are elapsed times of expiry, `none` where stopped. `bankFull` and
`atRest` are the gate inputs as last handed to the manager (R106). `cabinetSwitch`, `loadOn` are field
outputs (R109, R118). -/
structure Battery where
  charger : ChargerState
  absorbEntry : Nat
  absorbTimer : Option Nat
  tail : Nat
  sag : Nat
  targets : Option Targets
  testState : TestState
  testKind : Option TestKind
  retries : Nat
  testTimer : Option Nat
  restTimer : Option Nat
  loadTimer : Option Nat
  retryTimer : Option Nat
  v0 : Option Int
  lastTest : Option TestRecord
  loadOn : Bool
  bankFull : Bool
  atRest : Bool
  power : Option PowerState
  fall : Nat
  rise : Nat
  window : Option Nat
  cabinetSwitch : Bool
  deriving DecidableEq, Repr, Inhabited

/-! ## Retained store and settings store (chapter 7) -/

/-- A tag as the retained record holds it (R120). -/
structure RetainedTag where
  kind : TagKind
  crew : Option Nat
  source : TagSource
  placedAt : Stamp
  deriving DecidableEq, Repr, Inhabited

/-- The content of the retained record (R120). -/
structure RetainedContent where
  tags : List RetainedTag
  counters : Tri Nat
  failed : Tri Bool
  base : Nat
  deriving DecidableEq, Repr, Inhabited

/-- The retained record on the chip: its valid marker, content and CRC-16 (R120). -/
structure RetainedImage where
  marker : Bool
  content : RetainedContent
  crc : Half
  deriving DecidableEq, Repr, Inhabited

/-- The retained store: the content of the write in flight (absent in IDLE), rewrite-pending, whether
the health is SUSPECT (R123), and the record on the chip. -/
structure Retained where
  writing : Option RetainedContent
  rewrite : Bool
  suspect : Bool
  chip : RetainedImage
  deriving DecidableEq, Repr, Inhabited

/-- The stored settings blocks. `none` is a copy whose CRC matches no content: one that a cut or a
faulted write has left (R128). -/
structure StoredSettings where
  prot : Option StoredBlock
  curves : Vector (Option StoredBlock) 12
  battery : Option StoredBlock
  radio : Option StoredBlock
  roster : Option StoredBlock
  capture : Option StoredBlock
  deriving DecidableEq, Repr

/-- The settings store: the stored copies, the write in flight and the blocks waiting (R128). -/
structure SettingsStore where
  stored : StoredSettings
  writing : Option BlockContent
  waiting : List BlockName
  deriving DecidableEq, Repr

/-- The stager: the staging FIFO, head first, and the last notices on the apply points (R176). -/
structure Stager where
  fifo : List BlockContent
  atRest : Bool
  testRunning : Bool
  transmitting : Bool
  deriving DecidableEq, Repr, Inhabited

/-- Reset cause (R126). -/
inductive ResetCause where
  | powerOn
  | resetPin
  deriving DecidableEq, Repr, Inhabited

/-- Whether the part runs, is stopped by the reset pin (R126), or is DARK (R119). -/
inductive PartPower where
  | running
  | resetHeld
  | dark
  deriving DecidableEq, Repr, Inhabited

/-- The check a retained record failed (R127). -/
inductive LostCheck where
  | marker
  | crc
  deriving DecidableEq, Repr, Inhabited

/-! ## Status and event records (chapters 8 and 11.3) -/

/-- The part of the status content that belongs to one pole (R174). `seqState` is absent before the
records exist. -/
structure PoleStatus where
  pole : PoleState
  seqState : Option SeqState
  shot : Nat
  failed : Bool
  deriving DecidableEq, Repr, Inhabited

/-- The status content of the part (R174), but for the part code, the revision and the present time. -/
structure StatusContent where
  cause : ResetCause
  poles : Tri PoleStatus
  mode : TripMode
  blockedSeen : Bool
  leverTripped : Bool
  selectorRemote : Bool
  supply : Bool
  tagCount : Nat
  kinds : KindMarks
  hold : Bool
  power : Option PowerState
  charger : ChargerState
  vBatt : Int
  iBatt : Int
  temp : Option Int
  vBank : Int
  verdict : Option Verdict
  occupancy : Nat
  credit : Nat
  stage : Nat
  deriving DecidableEq, Repr, Inhabited

/-- Cause of RADIO_FAULT (R146). -/
inductive RadioFaultCause where
  | sendTimeout
  | noReady
  deriving DecidableEq, Repr, Inhabited

/-- The body of an event record, by kind (R133). -/
inductive EventBody where
  | trip (opened : PoleSet) (name : OperateName) (op : Nat) (peaks : Quad Nat) (sat : Quad Bool)
      (pickupToTrip wait : Option Nat) (capture : Option CaptureAnswer)
  | lockout (poles : PoleSet) (cause : LockoutCause) (shot : Nat) (last : Option OperateName)
      (source : Option CmdSource)
  | poleFail (missed : PoleSet) (origin : StrokeOrigin) (states : Tri PoleState) (bank : Nat)
  | energyFail (poles : PoleSet) (attempt level bank : Nat) (charger : BankCharger)
      (power : Option PowerState)
  | tagPlaced (kind : TagKind) (crew : Option Nat) (source : TagSource) (placedAt : Stamp)
      (retained : Bool)
  | tagRemoved (kind : TagKind) (crew : Option Nat) (source : TagSource) (code : Option Nat)
      (supervisor : Bool) (faultFree : Option Bool) (pendingHold : Bool)
  | closeBlocked (source : CmdSource) (set : Byte) (code : ResultCode)
  | retainedLost (check : LostCheck)
  | storeFault (block : Option BlockName)
  | chargerFault (left : ChargerState) (vBatt : Int) (temp : Option Int) (hot high : Bool)
  | powerState (previous : Option PowerState) (new : PowerState) (vBatt : Int) (window : Bool)
  | batteryTest (record : TestRecord)
  | reclose (poles : PoleSet) (shot : Nat)
  | sequenceReset (poles : PoleSet) (shot : Nat)
  | coordinationStep (poles : PoleSet) (shot : Nat)
  | closedByCommand (poles : PoleSet) (source : CmdSource)
  | settingsApplied (block : BlockName)
  | settingsDefaulted (block : BlockName)
  | counterAlarm (p : Pole) (value threshold : Nat)
  | sensorFault (high : Bool)
  | poleUnknown (p : Pole) (bothClosed : Bool)
  | opticalOverrun (number : Byte) (crew : Half)
  | timeSet (source : CmdSource) (held : Stamp)
  | radioFault (cause : RadioFaultCause) (since : Option Nat)
  | status (content : StatusContent)
  deriving DecidableEq, Repr, Inhabited

/-- Class of an event record (R132, R133). -/
inductive EventClass where
  | urgent
  | routine
  | status
  deriving DecidableEq, Repr, Inhabited

/-- Radio state of a record (R132). -/
inductive RadioMark where
  | notForRadio
  | pending
  | awaitingAck
  | acked
  | dropped
  deriving DecidableEq, Repr, Inhabited

/-- Cabinet state of a record (R132). -/
inductive CabinetMark where
  | pending
  | fetched
  | notForCabinet
  deriving DecidableEq, Repr, Inhabited

/-- An event record (R132). `renewed` is the mark of R137. -/
structure EventRecord where
  number : Nat
  cls : EventClass
  body : EventBody
  stamp : Stamp
  radio : RadioMark
  attempts : Nat
  nextTry : Nat
  inSend : Bool
  cabinet : CabinetMark
  renewed : Bool
  deriving DecidableEq, Repr, Inhabited

/-- A waiting fetch (R143): the request that waits and the expiry of the fetch-wait timer. -/
structure FetchWait where
  request : Nat
  deadline : Nat
  deriving DecidableEq, Repr, Inhabited

/-- The event queue, oldest record first. -/
structure EventQueue where
  records : List EventRecord
  next : Nat
  base : Nat
  armed : Bool
  fetch : Option FetchWait
  deriving DecidableEq, Repr, Inhabited

/-! ## Radio controller (chapter 9) -/

/-- Radio state (R147). -/
inductive RadioState where
  | off
  | idle
  | transmitting
  | recovering
  deriving DecidableEq, Repr, Inhabited

/-- The send in flight (R151): its send number, and the numbers of the packed records, or `none` for
a RESULT packet. -/
structure Send where
  number : Nat
  records : Option (List Nat)
  deriving DecidableEq, Repr, Inhabited

/-- The COMMAND_RESULT in the reply slot (R154). -/
structure SlotResult where
  command : Byte
  number : Byte
  code : ResultCode
  tags : Option (Bool × List TagLine)
  inSend : Bool
  deriving DecidableEq, Repr, Inhabited

/-- What an over-the-air packet carries (section 12.3): records, each as it stood at the start of the
send, or a result with the next event number, queue occupancy, tag count and hold-pending. -/
inductive PacketContent where
  | reports (records : List EventRecord)
  | result (slot : SlotResult) (next occupancy tagCount : Nat) (hold : Bool)
  deriving DecidableEq, Repr, Inhabited

/-- A TX_REQUEST handed to the modem (R145, section 12.3). -/
structure TxRequest where
  number : Nat
  destination : Nat
  source : Nat
  stamp : Stamp
  content : PacketContent
  deriving DecidableEq, Repr, Inhabited

/-- The radio controller (section 9). `permitted` is the modem power permission as last handed to it,
`lastMatch` the elapsed time of the last matching TX_RESULT, `sent` the TX_REQUESTs since start. -/
structure Radio where
  state : RadioState
  request : Bool
  permitted : Bool
  send : Option Send
  sendNumber : Nat
  timeouts : Nat
  faultNote : Bool
  credit : Nat
  refillTimer : Option Nat
  statusTimer : Option Nat
  modemTimer : Option Nat
  recoveryTimer : Option Nat
  readyWait : Option Nat
  slot : Option SlotResult
  lastMatch : Option Nat
  sent : List TxRequest
  deriving DecidableEq, Repr, Inhabited

/-! ## Capture unit (chapter 10) -/

/-- State of a segment (R161). -/
inductive SegmentState where
  | free
  | recording
  | post
  | frozen
  deriving DecidableEq, Repr, Inhabited

/-- The capture fields of a segment, present in POST and FROZEN (R161). -/
structure CaptureFields where
  id : Nat
  trigger : Nat
  time : Stamp
  preHeld : Nat
  postCount : Nat
  postWritten : Nat
  deriving DecidableEq, Repr, Inhabited

/-- A segment (R161): `ring` holds its sample sets, oldest first, and `first` is the index of the first
set that reached the unit after the segment became RECORDING. -/
structure Segment where
  state : SegmentState
  recorded : Nat
  ring : List MeasSet
  first : Nat
  capture : Option CaptureFields
  deriving DecidableEq, Repr, Inhabited

/-- The capture unit. `lastSet` is the index of the last set that reached it. -/
structure Capture where
  segments : List Segment
  nextId : Nat
  cursor : Option (Nat × Nat)
  lastSet : Nat
  deriving DecidableEq, Repr, Inhabited

/-! ## Cabinet link controller (chapter 11) -/

/-- The seven attention flags (R172). -/
structure AttnFlags where
  eventPending : Bool
  queueHigh : Bool
  settingsApplied : Bool
  captureReady : Bool
  linkError : Bool
  storeFault : Bool
  restarted : Bool
  deriving DecidableEq, Repr, Inhabited

/-- One line of a CAPTURE_LIST reply (R164). -/
structure CaptureLine where
  segment : Nat
  id : Nat
  time : Stamp
  preHeld : Nat
  postCount : Nat
  length : Nat
  deriving DecidableEq, Repr, Inhabited

/-- One line of a STAGE_GET reply (R177). -/
structure StageLine where
  block : BlockName
  holds : Bool
  deriving DecidableEq, Repr, Inhabited

/-- The content of a cabinet reply after its result code. -/
inductive ReplyContent where
  | nothing
  /-- the field index of a BAD_VALUE reply, absent where the owner gives none (R178, R180) -/
  | badField (index : Option Nat)
  | counters (values : Tri Nat) (threshold : Nat)
  | tags (hold : Bool) (lines : List TagLine)
  | battery (last : Option TestRecord) (state : TestState) (kind : Option TestKind) (retries : Nat)
      (periodLeft retryLeft : Option Nat)
  | event (pendingCount : Nat) (record : EventRecord)
  | captures (segments : Nat) (active : Option (Nat × SegmentState)) (lines : List CaptureLine)
  | samples (id first : Nat) (sets : List MeasSet) (left : Nat) (atEnd : Bool)
  | attention (flags mask : AttnFlags)
  | status (content : StatusContent) (now : Stamp)
  | settings (staged : Bool) (content : BlockContent)
  | stage (lines : List StageLine)
  | discarded (count : Nat)
  deriving DecidableEq, Repr, Inhabited

/-- A reply frame on the cabinet link: the kind of its request (the frame carries it with the reply
bit set), the tag of its request, the result code and the content (section 11.1). -/
structure CabinetReply where
  kind : Byte
  tag : Byte
  code : ResultCode
  content : ReplyContent
  deriving DecidableEq, Repr, Inhabited

/-- The reply owed (R170): the model's own number of the request, and the kind and tag it answers. -/
structure OwedReply where
  request : Nat
  kind : Byte
  tag : Byte
  deriving DecidableEq, Repr, Inhabited

/-- The cabinet link controller: the bytes of the open frame (empty when none is open) and the elapsed
time of the last byte, the reply owed, the flags and the mask, whether it has been started and whether
the cabinet controller is powered by the last notice, and the replies formed since start. -/
structure Cabinet where
  openBytes : List Byte
  lastByte : Nat
  owed : Option OwedReply
  nextRequest : Nat
  flags : AttnFlags
  mask : AttnFlags
  started : Bool
  powered : Bool
  replies : List CabinetReply
  deriving DecidableEq, Repr, Inhabited

/-! ## Mail: notices handed from one block to another and not yet taken -/

/-- What the sequence controller hands the actuator and energy unit (R63 to R66). `joined` holds the
poles whose records join the trip request with a trip in hand: those of an OPERATE (R43), none for a trip
of any other kind (R44). -/
inductive EnergyMsg where
  | trip (poles : PoleSet) (origin : StrokeOrigin) (joined : PoleSet := Tri.empty)
  | close (poles : PoleSet) (origin : StrokeOrigin)
  | withdraw (kind : StrokeKind) (poles : PoleSet)
  deriving DecidableEq, Repr, Inhabited

/-- The reason of a refused close request (R64, R65, R76). -/
inductive RefusalReason where
  | holdover
  | tag
  | tripWaiting
  | failed
  | queueFull
  | displaced
  deriving DecidableEq, Repr, Inhabited

/-- A grant notice (R68). -/
structure Grant where
  kind : StrokeKind
  poles : PoleSet
  attempt : Nat
  wait : Nat
  deriving DecidableEq, Repr, Inhabited

/-- A stroke result (R69, R72). `joined` is that of its request: the poles whose records have joined it
with a trip in hand (R44, log entry 56). -/
structure StrokeOutcome where
  kind : StrokeKind
  poles : PoleSet
  joined : PoleSet
  attempt : Nat
  reached : PoleSet
  missed : PoleSet
  cut : Bool
  final : Bool
  deriving DecidableEq, Repr, Inhabited

/-- What the actuator and energy unit hands the sequence controller. -/
inductive StrokeMsg where
  | grant (g : Grant)
  | result (r : StrokeOutcome)
  | refusal (poles : PoleSet) (reason : RefusalReason)
  deriving DecidableEq, Repr, Inhabited

/-- A tag signal (R82). `left` is the number of entries of the kind left in the table. -/
inductive TagSignal where
  | inForce (kind : TagKind)
  | removed (kind : TagKind) (left : Nat)
  | holdSet
  | holdCleared
  deriving DecidableEq, Repr, Inhabited

/-- What the sequence controller hands the battery manager on one event (R38): whether it was a
departure from rest, and a change of protection at rest. -/
structure RestNotice where
  departure : Bool
  change : Option Bool
  deriving DecidableEq, Repr, Inhabited

/-- The notices handed and not yet taken, each list oldest first: the part's blocks reach each other
only by these (spec/00, Block diagram; R1, R33, R82). -/
structure Mail where
  /-- measurement sets to the overcurrent unit, the sequence controller and the capture unit (R1) -/
  ocSets : List MeasSet
  seqSets : List MeasSet
  capSets : List MeasSet
  /-- "armed" (true) and "disarmed" to the overcurrent unit (R32) -/
  arming : List Bool
  /-- evaluation results to the sequence controller (R33) -/
  results : List EvalResult
  /-- grants, results and refusals to the sequence controller -/
  strokes : List StrokeMsg
  /-- tag signals to the sequence controller and to the actuator and energy unit (R82) -/
  seqTags : List TagSignal
  enTags : List TagSignal
  /-- pole-state changes to the same two (R8) -/
  seqPoles : List (Pole × PoleState)
  enPoles : List (Pole × PoleState)
  /-- lever changes to the same two: true for TRIPPED (R7) -/
  seqLever : List Bool
  enLever : List Bool
  /-- requests and withdrawals to the actuator and energy unit -/
  requests : List EnergyMsg
  /-- rest notices and bank notices to the battery manager (R38, R61) -/
  rest : List RestNotice
  bank : List Bool
  /-- modem power permission to the radio controller (R117) -/
  permission : List Bool
  /-- "cabinet power on" (true) and "cabinet power off" to the cabinet link controller (R118) -/
  cabinetPower : List Bool
  /-- notices to the stager (R176) -/
  stageRest : List Bool
  stageTest : List Bool
  stageRadio : List Bool
  /-- records raised and not yet arrived at the event queue (R134) -/
  raised : List (RecordSource × EventBody)
  deriving DecidableEq, Repr, Inhabited

/-! ## Measurement unit and time base as whole records (chapter 1) -/

/-- The measurement unit. `nextSet` and `nextSample` are the elapsed times at which the next set and
the next sampling expiry fall due, `samples` the sampling expiries since the last average delivery,
`tempBad` whether this second has held an invalid temperature sample (R6), `agree` the expiry of each
pole's agreement timer (R8). -/
structure Measurement where
  latest : MeasSet
  nextSet : Nat
  nextSample : Nat
  samples : Nat
  windows : SlowWindows
  averages : Averages
  delivered : Bool
  supply : Bool
  tempFault : Bool
  tempBad : Bool
  settled : Bool
  inputs : Inputs
  pole : Tri PoleState
  agree : Tri (Option Nat)
  lastDefinite : Tri (Option PoleState)
  counters : Tri Nat
  owed : List OwedWrite
  deriving DecidableEq, Repr, Inhabited

end Sys2Proof.Machine
end

