-- ==== Sys2Proof/Machine/Defaults.lean ====
section
/-! DEFINITION. The default content of each settings block, the factory curves, and the values each
block holds at every start. -/

namespace Sys2Proof.Machine

/-- The factory table of curve 0 (after R17). -/
def factoryCurve0 : Curve :=
  [⟨16, 2000⟩, ⟨24, 400⟩, ⟨32, 200⟩, ⟨48, 110⟩, ⟨64, 80⟩, ⟨96, 55⟩, ⟨160, 40⟩, ⟨320, 30⟩]

/-- The factory table of curve 1 (after R17). -/
def factoryCurve1 : Curve :=
  [⟨16, 30000⟩, ⟨24, 12000⟩, ⟨32, 7200⟩, ⟨48, 4200⟩, ⟨64, 3000⟩, ⟨96, 1800⟩, ⟨128, 1300⟩,
    ⟨192, 900⟩, ⟨320, 600⟩, ⟨640, 450⟩]

/-- The default content of curve n: curves 0 and 1 the factory tables, the others empty (R15). -/
def defaultCurve (n : Fin 12) : Curve :=
  if n = 0 then factoryCurve0 else if n = 1 then factoryCurve1 else []

/-- The default settings of an operation on one curve and in one speed class (section 2.2). -/
def defaultOp (curve : Nat) (speed : SpeedClass) : OpSettings :=
  { phaseCurve := curve, groundCurve := curve, tm := 100, adder := 0, speed := speed,
    instOn := false, instMult := 160, instDelay := 0 }

/-- The default PROTECTION block (section 2.2, section 4.2). -/
def defaultProtection : Protection :=
  { ip := 200, gp := 80, hotPickup := 200, opsToLockout := 4, resetMode := .instant,
    resetTime := 2000, dead1 := 500, dead2 := 2000, dead3 := 10000, reclaim := 30000,
    coordination := false, tripMode := .ganged, maintenance := 10000,
    trip1 := 4800, trip2 := 5600, trip3 := 6400, close1 := 7200, close2 := 8200, close3 := 9000,
    op1 := defaultOp 0 .fast, op2 := defaultOp 0 .fast,
    op3 := defaultOp 1 .delayed, op4 := defaultOp 1 .delayed }

/-- The default BATTERY block (R105). -/
def defaultBattery : BatterySettings :=
  { float25 := 2700, absorb25 := 2880, bulk := 300, absorbMin := 120, tail := 30, k := 36,
    testPeriod := 168, rLimit := 120, vMin := 2250 }

/-- The default RADIO block (section 9.8): the kind filter is ON for every kind, bits 0 to 24. -/
def defaultRadio : RadioSettings :=
  { own := 1, master := 65000, bitRate := 9600, keyOverhead := 80, refill := 100, cap := 6000,
    statusPeriod := 3600, ackBase := 10, filter := 33554431 }

/-- The default CAPTURE block (section 10.4). -/
def defaultCapture : CaptureSettings := { segments := 2, pre := 64, post := 128 }

/-- The default curves, all twelve. -/
def defaultCurves : Vector Curve 12 :=
  #v[factoryCurve0, factoryCurve1, [], [], [], [], [], [], [], [], [], []]

/-- The settings blocks in force with every block at its defaults. -/
def defaultSettings : InForce :=
  { prot := defaultProtection, curves := defaultCurves, battery := defaultBattery,
    radio := defaultRadio, roster := [], capture := defaultCapture }

/-- A measurement set of 0 A with no flag set (R2). -/
def noSet : MeasSet := { index := 0, time := 0, mag := Quad.all 0, sat := Quad.all false }

/-- The measurement unit at start (section 1.6). The counters are filled in by the start-up reads. -/
def startMeasurement : Measurement :=
  { latest := noSet, nextSet := 2, nextSample := 100, samples := 0,
    windows := { vBatt := [], iBatt := [], vBank := [], vSupply := [], temp := [] },
    averages := { vBatt := 0, iBatt := 0, vBank := 0, vSupply := 0, temp := some 0 },
    delivered := false, supply := false, tempFault := false, tempBad := false, settled := false,
    inputs :=
      { contactA := Tri.all false, contactB := Tri.all false, leverTripped := false,
        selectorRemote := false },
    pole := Tri.all .unknown, agree := Tri.all none, lastDefinite := Tri.all none,
    counters := Tri.all 0, owed := [] }

/-- An element in IDLE with all counts 0 (R21). -/
def idleElement : Element := { state := .idle, progress := 0, instCount := 0, sets := 0 }

/-- The overcurrent unit at start (R21, R32). -/
def startOvercurrent : Overcurrent :=
  { phase := Tri.all idleElement, ground := idleElement, hot := Tri.all .idle, armed := false }

/-- The empty set of elements. -/
def noElements : ElementSet := { phase := Tri.empty, ground := false, hot := Tri.empty }

/-- A sequence record as R35 starts one, in REST. -/
def startRecord : SeqRecord :=
  { state := .rest, shot := 0, lockOps := 4, timer := none, cause := none, lastOp := none,
    up := noElements, origin := none, longest := 0, pickupTime := none, pickupSet := 0,
    peaks := Quad.all 0, peakSat := Quad.all false, trip := none, capture := none,
    closeOrigin := none, note := none, tripAfter := none }

/-- No tag kind marked. -/
def noKinds : KindMarks :=
  { hotLine := false, doNotClose := false, remoteBlock := false, systemHold := false }

/-- The sequence controller before the start-up procedure creates the records (R35, R56). -/
def startSequence : Sequence :=
  { created := false, recs := Tri.all startRecord, summary := { kinds := noKinds, hold := false },
    blockedSeen := false, view := Tri.all .unknown, lastSet := 0, retries := [],
    saidAtRest := false }

/-- The actuator and energy unit at start (R78). -/
def startEnergy : Energy :=
  { bank := 0, charger := .held, bankFullSaid := false, queue := [], stroke := none, settle := none,
    failed := Tri.all false, view := Tri.all .unknown, owed := [] }

/-- The tag controller before the start-up reads. -/
def startTags : Tags := { table := [], holdPending := false }

/-- The optical port at start (R98). -/
def startOptical : Optical :=
  { openBytes := [], lastByte := 0, buffer := [], sending := none, overrun := false, nextFrame := 0,
    sent := [] }

/-- The battery manager at start (R99, R106, R116, R118). -/
def startBattery : Battery :=
  { charger := .off, absorbEntry := 0, absorbTimer := none, tail := 0, sag := 0, targets := none,
    testState := .idle, testKind := none, retries := 0, testTimer := none, restTimer := none,
    loadTimer := none, retryTimer := none, v0 := none, lastTest := none, loadOn := false,
    bankFull := false, atRest := false, power := none, fall := 0, rise := 0, window := none,
    cabinetSwitch := true }

/-- The content of a retained record that holds nothing. -/
def noContent : RetainedContent :=
  { tags := [], counters := Tri.all 0, failed := Tri.all false, base := 0 }

/-- The retained record of a part in which no write has ever completed: its valid marker, which shows
that a write completed (R120), is not there (log entry 3). -/
def blankImage : RetainedImage := { marker := false, content := noContent, crc := 0 }

/-- The event queue at start (R141, R143, R144). -/
def startQueue : EventQueue := { records := [], next := 0, base := 64, armed := true, fetch := none }

/-- The radio controller at start (R159). -/
def startRadio : Radio :=
  { state := .off, request := false, permitted := false, send := none, sendNumber := 0,
    timeouts := 0, faultNote := false, credit := 0, refillTimer := none, statusTimer := none,
    modemTimer := none, recoveryTimer := none, readyWait := none, slot := none, lastMatch := none,
    sent := [] }

/-- The capture unit at start (R161): the segments are laid out by the start-up reads. -/
def startCapture : Capture := { segments := [], nextId := 0, cursor := none, lastSet := 0 }

/-- No attention flag. -/
def noFlags : AttnFlags :=
  { eventPending := false, queueHigh := false, settingsApplied := false, captureReady := false,
    linkError := false, storeFault := false, restarted := false }

/-- The cabinet link controller at start (R169, R172, R173). -/
def startCabinet : Cabinet :=
  { openBytes := [], lastByte := 0, owed := none, nextRequest := 0, flags := noFlags, mask := noFlags,
    started := false, powered := true, replies := [] }

/-- The stager at start (R175, R176). -/
def startStager : Stager :=
  { fifo := [], atRest := false, testRunning := false, transmitting := false }

/-- The mail with nothing in it. -/
def noMail : Mail :=
  { ocSets := [], seqSets := [], capSets := [], arming := [], results := [], strokes := [],
    seqTags := [], enTags := [], seqPoles := [], enPoles := [], seqLever := [], enLever := [],
    requests := [], rest := [], bank := [], permission := [], cabinetPower := [], stageRest := [],
    stageTest := [], stageRadio := [], raised := [] }

end Sys2Proof.Machine
end

