-- ==== Sys2Proof/Config.lean ====
section
/-! DEFINITION. What an issue of the part fixes, and the free values: constants with no body, of which
nothing can be proved. Each free value is named in a row of notes/assumptions. -/

namespace Sys2Proof.Config

/-- The revision number of the part, "a number from 0 to 63 fixed for each issue of the part" (R174). -/
opaque revision : BitVec 6

/-- The level a stroke needs for no pole: the table of R62 gives levels for 1, 2 and 3 poles, and the
ENERGY_FAIL of a trip whose poles all show OPEN asks for one (log entry 57). -/
opaque levelOfNone : Nat

/-- Free choices: where the spec asks for one of several values and does not say which, the choice is
made by this constant, applied to the state's counter of free values (log entry 4). -/
opaque choice : Nat → Nat

/-- What a wire field of `width` bytes carries for a value that does not fit it: the spec states the
width and no form for such a value (log entry 5). -/
opaque unfit (width value : Nat) : Nat

/-- Whether a time of this many ms that the spec gives in whole seconds is rounded up: the spec states
no rounding (log entry 18). -/
opaque roundsUp : Nat → Bool

/-- What stands on the chip after a retained write that completed with a store fault: R123 leaves it
untrusted "whatever its marker and CRC happen to show". Applied to the state's counter of free values
(log entry 6). -/
opaque faultedRecord : Nat → Machine.RetainedImage

end Sys2Proof.Config
end

