-- ==== Sys2Proof/Machine/Wire.lean ====
section
/-! DEFINITION. The wire and stored forms of chapter 12: field encoding, the two CRCs, enumerated
values, event records, settings blocks, replies, packets and optical frames. -/

namespace Sys2Proof.Machine

/-! ## Field encoding (section 12.1) -/

/-- A number as `width` bytes, least significant byte first. -/
def leBytes : Nat → Nat → List Byte
  | 0, _ => []
  | w + 1, n => BitVec.ofNat 8 n :: leBytes w (n / 256)

/-- A field of `width` bytes. A value that does not fit has no stated form (log entry 5). -/
def field (width n : Nat) : List Byte :=
  if n < 256 ^ width then leBytes width n else leBytes width (Config.unfit width n)

/-- A signed field of `width` bytes, in two's complement; see `field` for a value that does not fit. -/
def signedField (width : Nat) (i : Int) : List Byte :=
  if 0 ≤ i then
    if i.toNat < 256 ^ width / 2 then field width i.toNat else field width (256 ^ width + i.toNat)
  else if -i ≤ Int.ofNat (256 ^ width / 2) then field width (256 ^ width - (-i).toNat)
  else field width (256 ^ width + (-i).toNat)

/-- An absent field: every bit one (R178). -/
def absent (width : Nat) : List Byte := List.replicate width 255#8

/-- A field that may be absent (R178). -/
def optField (width : Nat) : Option Nat → List Byte
  | some n => field width n
  | none => absent width

/-- A signed field that may be absent. -/
def optSigned (width : Nat) : Option Int → List Byte
  | some i => signedField width i
  | none => absent width

/-- A crew code, 0 where absent (R178). -/
def crewField (c : Option Nat) : List Byte := field 2 (c.getD 0)

/-- A number read from bytes, least significant byte first. -/
def leValue : List Byte → Nat
  | [] => 0
  | b :: bs => b.toNat + 256 * leValue bs

/-- One byte of flags, the first in bit 0. -/
def flagByte (flags : List Bool) : Byte :=
  BitVec.ofNat 8 (flags.foldr (fun b n => b.toNat + 2 * n) 0)

/-- A pole set: bit 0 A, bit 1 B, bit 2 C. -/
def setByte (s : PoleSet) : Byte := flagByte [s.a, s.b, s.c]

/-- A pole: 0 A, 1 B, 2 C. -/
def poleCode : Pole → Nat
  | .a => 0
  | .b => 1
  | .c => 2

/-- A timestamp: the seconds count, then a word with the milliseconds in bits 0 to 9, a class in bits
10 and 11 (0 but in event records) and SYNCED in bit 15. -/
def stampBytes (t : Stamp) (cls : Nat) : List Byte :=
  field 4 t.seconds ++ field 2 (t.ms + 1024 * cls + 32768 * t.synced.toNat)

/-! ## CRCs (R179) -/

/-- One bit of the CRC-16: shift left, and take the polynomial 0x1021 in when a bit falls out. -/
def crc16Bit (r : Half) : Half := if r.msb then (r <<< 1) ^^^ 0x1021#16 else r <<< 1

/-- One byte of the CRC-16, most significant bit first. -/
def crc16Byte (r : Half) (b : Byte) : Half :=
  crc16Bit (crc16Bit (crc16Bit (crc16Bit (crc16Bit (crc16Bit (crc16Bit (crc16Bit
    (r ^^^ (b.zeroExtend 16 <<< 8)))))))))

/-- CRC-16 with polynomial 0x1021 and initial value 0xFFFF. -/
def crc16 (bytes : List Byte) : Half := bytes.foldl crc16Byte 0xFFFF#16

/-- One bit of the CRC-8, polynomial 0x07. -/
def crc8Bit (r : Byte) : Byte := if r.msb then (r <<< 1) ^^^ 0x07#8 else r <<< 1

/-- One byte of the CRC-8, most significant bit first. -/
def crc8Byte (r : Byte) (b : Byte) : Byte :=
  crc8Bit (crc8Bit (crc8Bit (crc8Bit (crc8Bit (crc8Bit (crc8Bit (crc8Bit (r ^^^ b))))))))

/-- CRC-8 with polynomial 0x07 and initial value 0x00. -/
def crc8 (bytes : List Byte) : Byte := bytes.foldl crc8Byte 0#8

/-- The two CRC-16 bytes, least significant first. -/
def crcBytes (bytes : List Byte) : List Byte := leBytes 2 (crc16 bytes).toNat

/-! ## Enumerated values: the position in the list of the owning rule (R178) -/

def PoleState.code : PoleState → Nat
  | .closed => 0
  | .opened => 1
  | .unknown => 2

def ResetMode.code : ResetMode → Nat
  | .instant => 0
  | .decay => 1

def TripMode.code : TripMode → Nat
  | .ganged => 0
  | .single => 1

def SpeedClass.code : SpeedClass → Nat
  | .fast => 0
  | .delayed => 1

/-- "ON or OFF" (section 2.2): ON 0, OFF 1. -/
def onOffCode (on : Bool) : Nat := if on then 0 else 1

/-- "YES or NO" (R81): YES 0, NO 1. -/
def yesNoCode (yes : Bool) : Nat := if yes then 0 else 1

def OperateName.code : OperateName → Nat
  | .phaseToc => 0
  | .phaseInst => 1
  | .groundToc => 2
  | .groundInst => 3
  | .hotLine => 4

def SeqState.code : SeqState → Nat
  | .rest => 0
  | .timing => 1
  | .tripping => 2
  | .deadTime => 3
  | .closeWait => 4
  | .closing => 5
  | .reclaim => 6
  | .lockout => 7

def LockoutCause.code : LockoutCause → Nat
  | .protection => 0
  | .tag => 1
  | .command => 2
  | .lever => 3
  | .externalOpen => 4
  | .failToOpen => 5
  | .failToClose => 6
  | .noEnergy => 7
  | .startOpen => 8
  | .threePole => 9

def CmdSource.code : CmdSource → Nat
  | .cabinet => 0
  | .radio => 1

def StrokeOrigin.code : StrokeOrigin → Nat
  | .protection => 0
  | .commandCabinet => 1
  | .commandRadio => 2
  | .threePole => 3

def BankCharger.code : BankCharger → Nat
  | .charging => 0
  | .full => 1
  | .held => 2

def TagKind.code : TagKind → Nat
  | .hotLine => 0
  | .doNotClose => 1
  | .remoteBlock => 2
  | .systemHold => 3

def TagSource.code : TagSource → Nat
  | .optical => 0
  | .cabinet => 1
  | .radio => 2
  | .internal => 3

def TagStatus.code : TagStatus → Nat
  | .settled => 0
  | .placing => 1
  | .removing => 2

def ResultCode.code : ResultCode → Nat
  | .ok => 0
  | .okNotRetained => 1
  | .accepted => 2
  | .empty => 3
  | .busy => 4
  | .badKind => 5
  | .badLength => 6
  | .badIndex => 7
  | .badValue => 8
  | .stageFull => 9
  | .notFrozen => 10
  | .refusedLocal => 11
  | .refusedLever => 12
  | .refusedTag => 13
  | .refusedEnergy => 14
  | .refusedState => 15
  | .notRostered => 16
  | .alreadyHeld => 17
  | .tableFull => 18
  | .notHeld => 19
  | .refusedSource => 20

def ChargerState.code : ChargerState → Nat
  | .off => 0
  | .bulk => 1
  | .absorb => 2
  | .float => 3
  | .testRest => 4
  | .fault => 5

def PowerState.code : PowerState → Nat
  | .run => 0
  | .shedRadio => 1
  | .shedHost => 2
  | .holdover => 3

def TestState.code : TestState → Nat
  | .idle => 0
  | .waiting => 1
  | .testRest => 2
  | .loaded => 3
  | .retryWait => 4

def TestKind.code : TestKind → Nat
  | .scheduled => 0
  | .requested => 1

def Verdict.code : Verdict → Nat
  | .pass => 0
  | .weak => 1
  | .fail => 2
  | .invalid => 3
  | .aborted => 4
  | .notRun => 5

def AbortCause.code : AbortCause → Nat
  | .departure => 0
  | .powerState => 1
  | .chargerFault => 2
  | .restart => 3

def LostCheck.code : LostCheck → Nat
  | .marker => 0
  | .crc => 1

def RadioFaultCause.code : RadioFaultCause → Nat
  | .sendTimeout => 0
  | .noReady => 1

def SegmentState.code : SegmentState → Nat
  | .free => 0
  | .recording => 1
  | .post => 2
  | .frozen => 3

def EventClass.code : EventClass → Nat
  | .urgent => 0
  | .routine => 1
  | .status => 2

/-! ## Settings blocks (section 12.6) -/

/-- The fields of a block with their widths, in the order of their indices. -/
def fieldBytes (fields : List (Nat × Nat)) : List Byte := fields.flatMap fun f => field f.1 f.2

/-- The fields of one operation. -/
def OpSettings.fields (o : OpSettings) : List (Nat × Nat) :=
  [(1, o.phaseCurve), (1, o.groundCurve), (2, o.tm), (2, o.adder), (1, o.speed.code),
    (1, onOffCode o.instOn), (2, o.instMult), (1, o.instDelay)]

/-- The 51 fields of the PROTECTION block. -/
def Protection.fields (p : Protection) : List (Nat × Nat) :=
  [(2, p.ip), (2, p.gp), (2, p.hotPickup), (1, p.opsToLockout), (1, p.resetMode.code),
    (2, p.resetTime), (4, p.dead1), (4, p.dead2), (4, p.dead3), (4, p.reclaim),
    (1, onOffCode p.coordination), (1, p.tripMode.code), (4, p.maintenance), (2, p.trip1),
    (2, p.trip2), (2, p.trip3), (2, p.close1), (2, p.close2), (2, p.close3)]
    ++ p.op1.fields ++ p.op2.fields ++ p.op3.fields ++ p.op4.fields

/-- The fields of the BATTERY block. -/
def BatterySettings.fields (b : BatterySettings) : List (Nat × Nat) :=
  [(2, b.float25), (2, b.absorb25), (2, b.bulk), (2, b.absorbMin), (2, b.tail), (1, b.k),
    (2, b.testPeriod), (2, b.rLimit), (2, b.vMin)]

/-- The fields of the RADIO block. -/
def RadioSettings.fields (r : RadioSettings) : List (Nat × Nat) :=
  [(2, r.own), (2, r.master), (2, r.bitRate), (2, r.keyOverhead), (2, r.refill), (2, r.cap),
    (4, r.statusPeriod), (1, r.ackBase), (4, r.filter)]

/-- The fields of the CAPTURE block. -/
def CaptureSettings.fields (c : CaptureSettings) : List (Nat × Nat) :=
  [(1, c.segments), (1, c.pre), (1, c.post)]

/-- The bytes of a CURVE block: a point count, then 6 bytes for each point. -/
def curveBytes (c : Curve) : List Byte :=
  field 1 c.length ++ c.flatMap fun p => field 2 p.m16 ++ field 4 p.t

/-- The bytes of a ROSTER block: an entry count, then 3 bytes for each entry. -/
def rosterBytes (r : List RosterEntry) : List Byte :=
  field 1 r.length ++ r.flatMap fun e => field 2 e.code ++ field 1 e.supervisor.toNat

/-- The bytes of a settings block. -/
def BlockContent.bytes : BlockContent → List Byte
  | .protection p => fieldBytes p.fields
  | .curve _ c => curveBytes c
  | .battery b => fieldBytes b.fields
  | .radio r => fieldBytes r.fields
  | .roster r => rosterBytes r
  | .capture c => fieldBytes c.fields

/-- The name of a settings block's content. -/
def BlockContent.name : BlockContent → BlockName
  | .protection _ => .protection
  | .curve n _ => .curve n
  | .battery _ => .battery
  | .radio _ => .radio
  | .roster _ => .roster
  | .capture _ => .capture

/-- The block name byte and the curve id byte of a record or a STAGE_GET line (section 12.4, R177). A block
that is no CURVE has no curve id, and an absent field is written with every bit one (R178). -/
def BlockName.bytes : BlockName → List Byte
  | .protection => field 1 0 ++ absent 1
  | .curve n => field 1 1 ++ field 1 n.val
  | .battery => field 1 2 ++ absent 1
  | .radio => field 1 3 ++ absent 1
  | .roster => field 1 4 ++ absent 1
  | .capture => field 1 5 ++ absent 1

/-- The block named by a record, 6 for the retained record, which has no curve id (section 12.4, R178). -/
def faultBlockBytes : Option BlockName → List Byte
  | some b => b.bytes
  | none => field 1 6 ++ absent 1

/-- The stored form of a block: its content with the CRC-16 over it (R128, R179). -/
def storedForm (c : BlockContent) : StoredBlock := { content := c, crc := crc16 c.bytes }

/-- The stored CRC matches the content (R128). -/
def StoredBlock.good (b : StoredBlock) : Bool := b.crc == crc16 b.content.bytes

/-! ## The retained record (R120, R179) -/

def RetainedTag.bytes (t : RetainedTag) : List Byte :=
  field 1 t.kind.code ++ crewField t.crew ++ field 1 t.source.code ++ stampBytes t.placedAt 0

/-- Every field of the retained record but the valid marker, in the order of R120. How 0 to 8 tags are
laid out is not stated: DESIGN CHOICE (log entry 65), one byte of entry count, then the entries. -/
def RetainedContent.bytes (c : RetainedContent) : List Byte :=
  field 1 c.tags.length ++ c.tags.flatMap RetainedTag.bytes
    ++ field 4 c.counters.a ++ field 4 c.counters.b ++ field 4 c.counters.c
    ++ [setByte c.failed] ++ field 2 c.base

/-- The image a fault-free write leaves: fields, CRC-16, and the valid marker last (R121). -/
def writtenImage (c : RetainedContent) : RetainedImage :=
  { marker := true, content := c, crc := crc16 c.bytes }

/-- The record is valid (R120). -/
def RetainedImage.valid (i : RetainedImage) : Bool := i.marker && i.crc == crc16 i.content.bytes

/-! ## Status content (section 12.4) -/

def KindMarks.toList (k : KindMarks) : List Bool :=
  [k.hotLine, k.doNotClose, k.remoteBlock, k.systemHold]

/-- The nine bits of one pole: pole state, sequence state, shot count, FAILED. -/
def PoleStatus.bits (p : PoleStatus) : Nat :=
  p.pole.code + 4 * (match p.seqState with | some s => s.code | none => 7) + 32 * p.shot
    + 256 * p.failed.toNat

/-- The status content but for its first two bytes: 17 bytes, the body of a STATUS record. -/
def StatusContent.body (c : StatusContent) : List Byte :=
  [flagByte [c.cause == .resetPin, c.mode == .single, c.leverTripped, c.selectorRemote, c.supply,
      c.blockedSeen, c.hold, c.temp.isNone]]
    ++ field 5 (c.poles.a.bits + 2 ^ 9 * c.poles.b.bits + 2 ^ 18 * c.poles.c.bits
        + 2 ^ 27 * (flagByte c.kinds.toList).toNat + 2 ^ 31 * c.tagCount
        + 2 ^ 35 * (match c.power with | some p => p.code | none => 3) + 2 ^ 37 * c.charger.code)
    ++ field 2 ((match c.verdict with | some v => v.code | none => 7) + 8 * c.stage
        + 32 * c.occupancy)
    ++ signedField 2 c.vBatt ++ signedField 2 c.iBatt ++ signedField 1 (c.temp.getD (-128))
    ++ signedField 2 c.vBank ++ field 2 c.credit

/-- The part code 730 in bits 0 to 9 and the revision in bits 10 to 15 (section 12.3). -/
def partCode : List Byte := field 2 (730 + 1024 * Config.revision.toNat)

/-! ## Event records (section 12.4) -/

/-- The kind code of a record. -/
def EventBody.kind : EventBody → Nat
  | .trip .. => 0
  | .lockout .. => 1
  | .poleFail .. => 2
  | .energyFail .. => 3
  | .tagPlaced .. => 4
  | .tagRemoved .. => 5
  | .closeBlocked .. => 6
  | .retainedLost .. => 7
  | .storeFault .. => 8
  | .chargerFault .. => 9
  | .powerState .. => 10
  | .batteryTest .. => 11
  | .reclose .. => 12
  | .sequenceReset .. => 13
  | .coordinationStep .. => 14
  | .closedByCommand .. => 15
  | .settingsApplied .. => 16
  | .settingsDefaulted .. => 17
  | .counterAlarm .. => 18
  | .sensorFault .. => 19
  | .poleUnknown .. => 20
  | .opticalOverrun .. => 21
  | .timeSet .. => 22
  | .radioFault .. => 23
  | .status .. => 24

/-- The length of the body of each kind (the table of section 12.4). -/
def bodyLength : Nat → Nat
  | 0 => 22
  | 1 => 5
  | 2 => 8
  | 3 => 8
  | 4 => 11
  | 5 => 9
  | 6 => 3
  | 7 => 1
  | 8 => 2
  | 9 => 5
  | 10 => 5
  | 11 => 18
  | 12 => 2
  | 13 => 2
  | 14 => 2
  | 15 => 2
  | 16 => 2
  | 17 => 2
  | 18 => 9
  | 19 => 2
  | 20 => 2
  | 21 => 3
  | 22 => 7
  | 23 => 5
  | _ => 17

/-- The class of a record (R133). -/
def EventBody.cls : EventBody → EventClass
  | .trip .. => .urgent
  | .lockout .. => .urgent
  | .poleFail .. => .urgent
  | .energyFail .. => .urgent
  | .tagPlaced .. => .urgent
  | .tagRemoved .. => .urgent
  | .closeBlocked .. => .urgent
  | .retainedLost .. => .urgent
  | .storeFault .. => .urgent
  | .chargerFault .. => .urgent
  | .powerState _ new _ _ => if new = .holdover then .urgent else .routine
  | .batteryTest r => if r.verdict = .weak ∨ r.verdict = .fail then .urgent else .routine
  | .reclose .. => .routine
  | .sequenceReset .. => .routine
  | .coordinationStep .. => .routine
  | .closedByCommand .. => .routine
  | .settingsApplied .. => .routine
  | .settingsDefaulted .. => .routine
  | .counterAlarm .. => .routine
  | .sensorFault .. => .routine
  | .poleUnknown .. => .routine
  | .opticalOverrun .. => .routine
  | .timeSet .. => .routine
  | .radioFault .. => .routine
  | .status .. => .status

def TestRecord.bytes (r : TestRecord) : List Byte :=
  field 1 r.verdict.code ++ field 1 r.kind.code ++ optSigned 2 r.v0 ++ optSigned 2 r.v1
    ++ optSigned 2 r.i1 ++ optField 2 r.r ++ optField 1 (r.cause.map AbortCause.code)
    ++ optField 1 (r.phase.map TestState.code) ++ stampBytes r.time 0

/-- The capture id of a TRIP body, all ones when missed. -/
def captureField : Option CaptureAnswer → List Byte
  | some (.id n) => field 2 n
  | _ => absent 2

/-- A body's bytes: the fields listed for its kind in R133, in that order (section 12.4). Section 12.4 makes
the conditions of CHARGER_FAULT a flag byte and gives them no bits: DESIGN CHOICE (log entry 82), the
temperature has bit 0 and the voltage bit 1, as R104 names them. -/
def EventBody.bytes : EventBody → List Byte
  | .trip opened name op peaks sat pickupToTrip wait capture =>
    [setByte opened] ++ field 1 name.code ++ field 1 op
      ++ field 2 peaks.a ++ field 2 peaks.b ++ field 2 peaks.c ++ field 2 peaks.g
      ++ [flagByte [sat.a, sat.b, sat.c, sat.g, capture == some .missed]]
      ++ optField 4 pickupToTrip ++ optField 4 wait ++ captureField capture
  | .lockout poles cause shot last source =>
    [setByte poles] ++ field 1 cause.code ++ field 1 shot
      ++ optField 1 (last.map OperateName.code) ++ optField 1 (source.map CmdSource.code)
  | .poleFail missed origin states bank =>
    [setByte missed] ++ field 1 0 ++ field 1 origin.code
      ++ (if missed.a then field 1 states.a.code else absent 1)
      ++ (if missed.b then field 1 states.b.code else absent 1)
      ++ (if missed.c then field 1 states.c.code else absent 1) ++ field 2 bank
  | .energyFail poles attempt level bank charger power =>
    [setByte poles] ++ field 1 attempt ++ field 2 level ++ field 2 bank ++ field 1 charger.code
      ++ optField 1 (power.map PowerState.code)
  | .tagPlaced kind crew source placedAt retained =>
    field 1 kind.code ++ crewField crew ++ field 1 source.code ++ stampBytes placedAt 0
      ++ field 1 (yesNoCode retained)
  | .tagRemoved kind crew source code supervisor faultFree pendingHold =>
    field 1 kind.code ++ crewField crew ++ field 1 source.code ++ crewField code
      ++ [flagByte [supervisor]]
      ++ (match faultFree with | some f => [flagByte [f]] | none => absent 1)
      ++ [flagByte [pendingHold]]
  | .closeBlocked source set code => field 1 source.code ++ [set] ++ field 1 code.code
  | .retainedLost check => field 1 check.code
  | .storeFault block => faultBlockBytes block
  | .chargerFault left vBatt temp hot high =>
    field 1 left.code ++ signedField 2 vBatt ++ signedField 1 (temp.getD (-128))
      ++ [flagByte [hot, high]]
  | .powerState previous new vBatt window =>
    optField 1 (previous.map PowerState.code) ++ field 1 new.code ++ signedField 2 vBatt
      ++ [flagByte [window]]
  | .batteryTest record => record.bytes
  | .reclose poles shot => [setByte poles] ++ field 1 shot
  | .sequenceReset poles shot => [setByte poles] ++ field 1 shot
  | .coordinationStep poles shot => [setByte poles] ++ field 1 shot
  | .closedByCommand poles source => [setByte poles] ++ field 1 source.code
  | .settingsApplied block => block.bytes
  | .settingsDefaulted block => block.bytes
  | .counterAlarm p value threshold => field 1 (poleCode p) ++ field 4 value ++ field 4 threshold
  | .sensorFault high => field 1 4 ++ field 1 high.toNat
  | .poleUnknown p bothClosed => field 1 (poleCode p) ++ field 1 bothClosed.toNat
  | .opticalOverrun number crew => [number] ++ field 2 crew.toNat
  | .timeSet source held => field 1 source.code ++ stampBytes held 0
  | .radioFault cause since => field 1 cause.code ++ optField 4 since
  | .status content => content.body

/-- A record's wire form: number, kind, timestamp with the class, body (section 12.4). -/
def EventRecord.bytes (r : EventRecord) : List Byte :=
  field 2 r.number ++ field 1 r.body.kind ++ stampBytes r.stamp r.cls.code ++ r.body.bytes

/-- The length of a record's wire form. -/
def EventRecord.wireLength (r : EventRecord) : Nat := 9 + bodyLength r.body.kind

/-! ## Tag content, packets and optical replies -/

/-- An entry of a TAG_LIST reply and of the TAG_QUERY content: 12 bytes (section 12.2). -/
def TagLine.bytes (l : TagLine) : List Byte :=
  field 1 l.kind.code ++ crewField l.crew ++ field 1 l.source.code ++ stampBytes l.placedAt 0
    ++ field 1 (yesNoCode l.retained) ++ field 1 l.status.code

/-- The payload of an over-the-air packet (section 12.3). Section 12.2 opens the TAG_QUERY content with a
hold-pending byte and a count byte, section 12.3 lets the entries alone follow the eight bytes: DESIGN
CHOICE (log entry 69), the tag byte carries the flag and the count, and no byte repeats them. -/
def PacketContent.payload : PacketContent → List Byte
  | .reports records => records.flatMap EventRecord.bytes
  | .result slot next occupancy tagCount hold =>
    [slot.command] ++ [slot.number] ++ field 1 slot.code.code ++ absent 1 ++ field 2 next
      ++ field 1 occupancy ++ field 1 (tagCount + 128 * hold.toNat)
      ++ (match slot.tags with | some t => t.2.flatMap TagLine.bytes | none => [])

/-- The length of a payload, which the cost of a packet is reckoned on (R149). -/
def PacketContent.payloadLength : PacketContent → Nat
  | .reports records => (records.map EventRecord.wireLength).sum
  | .result slot _ _ _ _ => 8 + 12 * (match slot.tags with | some t => t.2.length | none => 0)

/-- The item count of a packet: records packed, or 1 (section 12.3). -/
def PacketContent.items : PacketContent → Nat
  | .reports records => records.length
  | .result .. => 1

/-- The packet type: 0 REPORTS, 1 RESULT (section 12.3). -/
def PacketContent.type : PacketContent → Nat
  | .reports _ => 0
  | .result .. => 1

/-- An over-the-air packet (section 12.3). -/
def TxRequest.packet (t : TxRequest) : List Byte :=
  let body := field 2 t.destination ++ field 2 t.source ++ field 1 t.content.type ++ partCode
    ++ stampBytes t.stamp 0 ++ field 1 t.content.items ++ t.content.payload
  body ++ crcBytes body

/-- A frame of the cabinet or modem line (section 12.2). -/
def frameBytes (kind tag : Byte) (body : List Byte) : List Byte :=
  let inner := field 1 body.length ++ [kind, tag] ++ body
  [0xC3#8] ++ inner ++ crcBytes inner

/-- The TX_REQUEST frame that carries a packet; the tag of a modem frame is not stated (log entry 7). -/
def TxRequest.frame (t : TxRequest) (tag : Byte) : List Byte :=
  frameBytes 0x40#8 tag (field 1 t.number ++ t.packet)

/-- A capture sample set: 9 bytes (section 12.5). -/
def sampleBytes (m : MeasSet) : List Byte :=
  field 2 m.mag.a ++ field 2 m.mag.b ++ field 2 m.mag.c ++ field 2 m.mag.g
    ++ [flagByte [m.sat.a, m.sat.b, m.sat.c, m.sat.g]]

/-- A reply on the optical port (section 12.5). -/
def OpticalReply.bytes (r : OpticalReply) : List Byte :=
  let body := field 2 r.crew.toNat ++ [r.action, r.number] ++ field 1 r.result.code
    ++ field 1 r.count ++ [flagByte [r.hold]]
    ++ (match r.lines with
        | some ls => ls.flatMap fun l => field 1 l.kind.code ++ crewField l.crew
            ++ field 1 l.status.code
        | none => [])
  [0x5B#8] ++ body ++ [crc8 body]

/-- One mark for each of the seven attention flags, in the order of R172. -/
def AttnFlags.toList (f : AttnFlags) : List Bool :=
  [f.eventPending, f.queueHigh, f.settingsApplied, f.captureReady, f.linkError, f.storeFault,
    f.restarted]

/-- A line of CAPTURE_LIST in the order of R164: segment number, capture id, trigger time, pre held, post
count and length. -/
def CaptureLine.bytes (l : CaptureLine) : List Byte :=
  field 1 l.segment ++ field 2 l.id ++ stampBytes l.time 0 ++ field 2 l.preHeld ++ field 2 l.postCount
    ++ field 2 l.length

/-- A line of STAGE_GET (R177): block name, curve id, and whether the apply point holds. -/
def StageLine.bytes (l : StageLine) : List Byte := l.block.bytes ++ [flagByte [l.holds]]

/-- The last test of BATTERY_RESULT_GET (R114) in the form of a BATTERY_TEST body, or a verdict of NONE
with no other field present. -/
def lastTestBytes : Option TestRecord → List Byte
  | some r => r.bytes
  | none => absent 18

/-- The body of a cabinet reply after its result code. The bodies of TAG_LIST, EVENT_FETCH, the capture
reads, STATUS_GET and BAD_VALUE are laid out in chapter 12. The others carry the fields of their owner's
rule in its order at the widths of section 12.1, a count or number of sets as section 12.2 writes one
elsewhere (DEDUCED, log entry 8). -/
def ReplyContent.bytes : ReplyContent → List Byte
  | .nothing => []
  | .badField i => optField 1 i
  | .tags hold lines => [flagByte [hold]] ++ field 1 lines.length ++ lines.flatMap TagLine.bytes
  | .event count record => field 1 count ++ record.bytes
  | .samples id first sets left atEnd =>
    field 2 id ++ field 2 first ++ field 1 sets.length ++ field 2 left ++ [flagByte [atEnd]]
      ++ sets.flatMap sampleBytes
  | .status content now => partCode ++ content.body ++ stampBytes now 0
  | .counters values threshold =>
    field 4 values.a ++ field 4 values.b ++ field 4 values.c ++ field 4 threshold
  | .battery last state kind retries periodLeft retryLeft =>
    lastTestBytes last ++ field 1 state.code ++ optField 1 (kind.map TestKind.code) ++ field 1 retries
      ++ optField 4 periodLeft ++ optField 4 retryLeft
  | .captures segments active lines =>
    field 1 segments ++ optField 1 (active.map Prod.fst)
      ++ optField 1 (active.map fun a => a.2.code) ++ lines.flatMap CaptureLine.bytes
  | .attention flags mask => [flagByte flags.toList] ++ [flagByte mask.toList]
  | .settings staged content => content.bytes ++ field 1 (!staged).toNat
  | .stage lines => field 1 lines.length ++ lines.flatMap StageLine.bytes
  | .discarded count => field 1 count

/-- The reply frame: the kind of the request with the reply bit set, its tag, and the result code as
the first byte of the body (section 11.1, R178). -/
def CabinetReply.frame (r : CabinetReply) : List Byte :=
  frameBytes (r.kind ||| 0x80#8) r.tag (field 1 r.code.code ++ r.content.bytes)

end Sys2Proof.Machine
end

