-- ==== Sys2Proof/Machine/State.lean ====
section
/-! DEFINITION. The state of the Verowa 730: every block's state, the mail between the blocks, and the
queue of the commands that are waiting. The ways a command can stop. The state right after reset. -/

namespace Sys2Proof.Machine

/-- Faults. The spec names no behaviour of this part that stops it with an error: every command has an
effect, or none, in every state. The type has no constructor, so no command faults. -/
inductive Fault where
  deriving DecidableEq, Repr

/-- Refusals. -/
inductive Refusal where
  /-- Raised by `exec` alone, for a row of the opcode table that has no meaning yet. Safe: the machine
  stops where the part would go on. No arm of `exec` raises it in this model. -/
  | notModelled (mnemonic : String)
  deriving DecidableEq, Repr

/-- The state of the part. -/
structure State where
  /-- the part runs, is stopped by the reset pin, or is DARK (R119, R126) -/
  power : PartPower
  /-- reset cause (R126) -/
  cause : ResetCause
  /-- elapsed time since start in ms: what every timer of the part runs on (section 1.5) -/
  elapsed : Nat
  /-- time base (R12) -/
  clock : Stamp
  /-- the reads of the retained record and the settings blocks have completed (R127, R128) -/
  readsDone : Bool
  /-- measurement unit (chapter 1) -/
  meas : Measurement
  /-- settings blocks in force, with the curve table store (R15, section 11.4) -/
  cfg : InForce
  /-- overcurrent unit (chapter 2) -/
  oc : Overcurrent
  /-- sequence controller (chapter 3) -/
  seq : Sequence
  /-- actuator and energy unit (chapter 4) -/
  en : Energy
  /-- tag controller (chapter 5) -/
  tags : Tags
  /-- optical port (section 5.8) -/
  opt : Optical
  /-- battery manager (chapter 6) -/
  bat : Battery
  /-- retained store (chapter 7) -/
  ret : Retained
  /-- settings store (R128) -/
  store : SettingsStore
  /-- stager (section 11.4) -/
  stage : Stager
  /-- event queue (chapter 8) -/
  eq : EventQueue
  /-- radio controller (chapter 9) -/
  rad : Radio
  /-- capture unit (chapter 10) -/
  cap : Capture
  /-- cabinet link controller (sections 11.1 and 11.2) -/
  cab : Cabinet
  /-- notices handed and not yet taken -/
  mail : Mail
  /-- the model's own: how many free values have been drawn (log entry 4) -/
  free : Nat
  /-- the model's own: the commands that wait, first in, first out -/
  pending : List Instr
  deriving DecidableEq, Repr

/-- The stored settings blocks of a part at its first start: each at its defaults (R15, R20, R79, R105,
R158, R167). -/
def factoryStored : StoredSettings :=
  { prot := some (storedForm (.protection defaultProtection)),
    curves := Vector.ofFn fun n => some (storedForm (.curve n (defaultCurve n))),
    battery := some (storedForm (.battery defaultBattery)),
    radio := some (storedForm (.radio defaultRadio)),
    roster := some (storedForm (.roster [])),
    capture := some (storedForm (.capture defaultCapture)) }

/-- The part right after reset: a first cold start has just begun (R126), nothing has been read, no
millisecond has passed. -/
def State.reset : State :=
  { power := .running, cause := .powerOn, elapsed := 0,
    clock := { seconds := 0, ms := 0, synced := false }, readsDone := false,
    meas := startMeasurement, cfg := defaultSettings, oc := startOvercurrent, seq := startSequence,
    en := startEnergy, tags := startTags, opt := startOptical, bat := startBattery,
    ret := { writing := none, rewrite := false, suspect := false, chip := blankImage },
    store := { stored := factoryStored, writing := none, waiting := [] },
    stage := startStager, eq := startQueue, rad := startRadio, cap := startCapture,
    cab := startCabinet, mail := noMail, free := 0, pending := [] }

end Sys2Proof.Machine
end

