-- ==== Sys2Proof/Machine/Ops.lean ====
section
/-! DEFINITION. The operations every block shares: the part's running condition, raising a record,
timers, free choices, the frame of a cabinet request and the forming of its reply. -/

namespace Sys2Proof.Machine

/-- The outcome of a command. -/
abbrev Result := Host.Outcome State Fault Refusal

/-- A command of a running part: while the part is stopped by the reset pin or DARK, no event reaches a
block and nothing changes (R119, R126). -/
def whenRunning (f : State → State) (s : State) : Result :=
  match s.power with
  | .running => .next (f s)
  | .resetHeld => .next s
  | .dark => .next s

/-- A block raises a record: it goes to the event queue, which takes it as an event of its own (R134). -/
def raise (source : RecordSource) (body : EventBody) (s : State) : State :=
  { s with mail := { s.mail with raised := s.mail.raised ++ [(source, body)] } }

/-- A timer that runs has reached its expiry. -/
def due (deadline : Option Nat) (s : State) : Bool :=
  match deadline with
  | some d => decide (d ≤ s.elapsed)
  | none => false

/-- One free choice: a number that nothing constrains, and the state with the draw counted (log entry
4). -/
def freeNat (s : State) : Nat := Config.choice s.free

/-- The state after a free choice. -/
def countDraw (s : State) : State := { s with free := s.free + 1 }

/-- An element of a list that holds at least one, at a freely chosen place. -/
def pick {α : Type} (n : Nat) : List α → Option α
  | [] => none
  | x :: xs => (x :: xs)[n % (xs.length + 1)]?

/-- All members of the list agree with the first. -/
def allEqual {α : Type} [DecidableEq α] : List α → Bool
  | [] => true
  | x :: xs => xs.all fun y => decide (y = x)

/-- The one value of a list, or a free choice among the values where they differ. -/
def agreed {α : Type} [DecidableEq α] (l : List α) (s : State) : Option α × State :=
  if allEqual l then (l.head?, s) else (pick (freeNat s) l, countDraw s)

/-! ## Records at rest (R38) -/

/-- REST or LOCKOUT. -/
def SeqState.resting : SeqState → Bool
  | .rest => true
  | .lockout => true
  | .timing => false
  | .tripping => false
  | .deadTime => false
  | .closeWait => false
  | .closing => false
  | .reclaim => false

/-! ## Cabinet requests (R170) -/

/-- A reply frame goes to the transmit line behind those formed before it. -/
def formReply (kind tag : Byte) (code : ResultCode) (content : ReplyContent) (s : State) : State :=
  { s with cab := { s.cab with
      replies := s.cab.replies ++ [{ kind := kind, tag := tag, code := code, content := content }] } }

/-- The owner's answer to the request of this number. An abandoned reply is not sent (R171). -/
def answer (request : Nat) (code : ResultCode) (content : ReplyContent) (s : State) : State :=
  match s.cab.owed with
  | none => s
  | some o =>
    if o.request = request then
      formReply o.kind o.tag code content { s with cab := { s.cab with owed := none } }
    else s

/-- The answer with a result code alone. -/
def answerCode (request : Nat) (code : ResultCode) (s : State) : State :=
  answer request code .nothing s

/-- The answer BAD_VALUE, with the index of the field in error where the owner gives one (R178, R180; log
entry 9). -/
def answerBadValue (request : Nat) (index : Option Nat) (s : State) : State :=
  answer request .badValue (.badField index) s

/-- The answer code of a cabinet request, with the field index slot of BAD_VALUE. -/
def answerResult (id : Nat) (code : ResultCode) (s : State) : State :=
  match code with
  | .badValue => answerBadValue id none s
  | _ => answerCode id code s

/-- A waiting fetch ends with EMPTY (R143). -/
def endFetchEmpty (s : State) : State :=
  match s.eq.fetch with
  | none => s
  | some f => answerCode f.request .empty { s with eq := { s.eq with fetch := none } }

/-- Steps 4 to 6 of R170 as they came out for a frame: a refusal, or the owner's handling of the
request, which the request's number is given to. -/
inductive Dispatch where
  | refuse (code : ResultCode)
  | serve (owner : Nat → State → State)

/-- The dispatch of a request: a reply is owed from this moment (R170 step 6). -/
def dispatch (kind tag : Byte) (owner : Nat → State → State) (s : State) : State :=
  owner s.cab.nextRequest { s with cab := { s.cab with
    owed := some { request := s.cab.nextRequest, kind := kind, tag := tag },
    nextRequest := s.cab.nextRequest + 1 } }

/-- Steps 3 to 6 of R170. -/
def takeFrameBehindFetch (kind tag : Byte) (d : Dispatch) (s : State) : State :=
  match s.cab.owed with
  | some _ => formReply kind tag .busy .nothing s
  | none =>
    match d with
    | .refuse code => formReply kind tag code .nothing s
    | .serve owner => dispatch kind tag owner s

/-- A frame that has passed its framing checks, taken on its arrival (R170). -/
def takeFrame (kind tag : Byte) (d : Dispatch) (s : State) : State :=
  if s.cab.started then takeFrameBehindFetch kind tag d (endFetchEmpty s)
  else formReply kind tag .busy .nothing s

/-- A request of a listed kind whose body has the length of its kind. -/
def request (kind tag : Byte) (owner : Nat → State → State) (s : State) : State :=
  takeFrame kind tag (.serve owner) s

end Sys2Proof.Machine
end

