-- ==== Sys2Proof/Machine/Operands.lean ====
section
/-! DEFINITION. The operand forms of requests, commands and frames (sections 12.1 and 12.2, R180): pole,
pole set, tag kind, block name and timestamp, each as the bytes of a body spell it. -/

namespace Sys2Proof.Machine

/-- A pole: 0 A, 1 B, 2 C; any other value names no pole. -/
def poleOf (b : Byte) : Option Pole :=
  match b.toNat with
  | 0 => some .a
  | 1 => some .b
  | 2 => some .c
  | _ => none

/-- A pole set: bits 0 to 2; a bit from 3 to 7 names a pole outside A, B and C (R180). The empty set is
given as read: the owner's rule refuses it. -/
def poleSetOf (b : Byte) : Option PoleSet :=
  if b.toNat < 8 then some { a := b.getLsbD 0, b := b.getLsbD 1, c := b.getLsbD 2 } else none

/-- A kind of tag, in the order of R81. -/
def tagKindOf (b : Byte) : Option TagKind :=
  match b.toNat with
  | 0 => some .hotLine
  | 1 => some .doNotClose
  | 2 => some .remoteBlock
  | 3 => some .systemHold
  | _ => none

/-- A block name with no curve id of its own. -/
def plainBlockOf (block : Byte) : Option BlockName :=
  match block.toNat with
  | 0 => some .protection
  | 2 => some .battery
  | 3 => some .radio
  | 4 => some .roster
  | 5 => some .capture
  | _ => none

/-- A block name and curve id (section 12.2): a curve id from 0 to 11 for CURVE, and 0 for the other
blocks; any other value names no listed one (R175, R180; log entry 61). -/
def blockOf (block curve : Byte) : Option BlockName :=
  if block = 1#8 then
    if h : curve.toNat < 12 then some (.curve ⟨curve.toNat, h⟩) else none
  else if curve = 0#8 then plainBlockOf block
  else none

/-- The milliseconds of a timestamp's word, bits 0 to 9; its class and SYNCED bits are not read (R180). -/
def msOf (word : Half) : Nat := word.toNat % 1024

/-- The three poles. -/
def allPoles : List Pole := [.a, .b, .c]

end Sys2Proof.Machine
end

