-- ==== Sys2Proof/Machine/Flags.lean ====
section
/-! DEFINITION. The attention flags and the ATTENTION line (section 11.2), and the status content of the
part (section 11.3). -/

namespace Sys2Proof.Machine

/-- The attention flags as a byte names them: bits 0 to 6 in the order of R172 (section 12.2). -/
def AttnFlags.ofByte (b : Byte) : AttnFlags :=
  { eventPending := b.getLsbD 0, queueHigh := b.getLsbD 1, settingsApplied := b.getLsbD 2,
    captureReady := b.getLsbD 3, linkError := b.getLsbD 4, storeFault := b.getLsbD 5,
    restarted := b.getLsbD 6 }

/-- The flags of `f` that `g` does not name. -/
def AttnFlags.without (f g : AttnFlags) : AttnFlags :=
  { eventPending := f.eventPending && !g.eventPending, queueHigh := f.queueHigh && !g.queueHigh,
    settingsApplied := f.settingsApplied && !g.settingsApplied,
    captureReady := f.captureReady && !g.captureReady, linkError := f.linkError && !g.linkError,
    storeFault := f.storeFault && !g.storeFault, restarted := f.restarted && !g.restarted }

/-- Some flag is set. -/
def AttnFlags.any (f : AttnFlags) : Bool :=
  f.eventPending || f.queueHigh || f.settingsApplied || f.captureReady || f.linkError || f.storeFault
    || f.restarted

/-- The ATTENTION line (R173). It is a function of the state, so it is judged again whenever one of the
three conditions changes. -/
def attentionLine (s : State) : Bool :=
  decide (s.power = .running) && s.cab.started && s.cab.powered && (s.cab.flags.without s.cab.mask).any

/-- A notice sets its flag; a flag already set stays set (R172). -/
def setFlags (f : AttnFlags → AttnFlags) (s : State) : State :=
  { s with cab := { s.cab with flags := f s.cab.flags } }

def flagEventPending (s : State) : State := setFlags (fun f => { f with eventPending := true }) s

def flagQueueHigh (s : State) : State := setFlags (fun f => { f with queueHigh := true }) s

def flagSettingsApplied (s : State) : State := setFlags (fun f => { f with settingsApplied := true }) s

def flagCaptureReady (s : State) : State := setFlags (fun f => { f with captureReady := true }) s

def flagLinkError (s : State) : State := setFlags (fun f => { f with linkError := true }) s

def flagStoreFault (s : State) : State := setFlags (fun f => { f with storeFault := true }) s

def flagRestarted (s : State) : State := setFlags (fun f => { f with restarted := true }) s

/-! ## Status content (R174) -/

/-- The kinds of tag in a table (R82). -/
def kindsHeld (table : List TagEntry) : KindMarks :=
  { hotLine := table.any fun e => decide (e.kind = .hotLine),
    doNotClose := table.any fun e => decide (e.kind = .doNotClose),
    remoteBlock := table.any fun e => decide (e.kind = .remoteBlock),
    systemHold := table.any fun e => decide (e.kind = .systemHold) }

/-- The status of one pole. -/
def poleStatus (s : State) (p : Pole) : PoleStatus :=
  { pole := s.meas.pole.get p,
    seqState := if s.seq.created then some (s.seq.recs.get p).state else none,
    shot := (s.seq.recs.get p).shot, failed := s.en.failed.get p }

/-- The status content of the part as it stands, by the list of R174. R101 has the targets used in STATUS
too, and no rule gives them a field there: DEDUCED (log entry 33), there is none. -/
def statusContent (s : State) : StatusContent :=
  { cause := s.cause, poles := Tri.of (poleStatus s), mode := s.cfg.prot.tripMode,
    blockedSeen := s.seq.blockedSeen, leverTripped := s.meas.inputs.leverTripped,
    selectorRemote := s.meas.inputs.selectorRemote, supply := s.meas.supply,
    tagCount := s.tags.table.length, kinds := kindsHeld s.tags.table, hold := s.tags.holdPending,
    power := s.bat.power, charger := s.bat.charger, vBatt := s.meas.averages.vBatt,
    iBatt := s.meas.averages.iBatt, temp := s.meas.averages.temp, vBank := s.meas.averages.vBank,
    verdict := s.bat.lastTest.map TestRecord.verdict, occupancy := s.eq.records.length,
    credit := s.rad.credit, stage := s.stage.fifo.length }

end Sys2Proof.Machine
end

