-- ==== Sys2Proof/Machine/StoreOps.lean ====
section
/-! DEFINITION. The shared operations of the retained store and the settings store (chapter 7): a
request for a rewrite, the start of a write, and the writes of the settings blocks. -/

namespace Sys2Proof.Machine

/-! ## Retained store (R120, R121) -/

/-- A tag entry as the retained record holds it (R120). -/
def TagEntry.stored (e : TagEntry) : RetainedTag :=
  { kind := e.kind, crew := e.crew, source := e.source, placedAt := e.placedAt }

/-- The whole current content of the retained record (R121, R87): the entries that are not removing, in
table order, the counters, the FAILED marks and the event-number base. -/
def gatherContent (s : State) : RetainedContent :=
  { tags := (s.tags.table.filter fun e => e.removal.isNone).map TagEntry.stored,
    counters := s.meas.counters, failed := s.en.failed, base := s.eq.base }

/-- The write mark of an entry when a write starts: the write holds it, or leaves it out (R87). -/
def TagEntry.markAtStart (e : TagEntry) : TagEntry :=
  { e with mark := if e.removal.isNone then .held else .left }

/-- A reply that is owed is covered by the write that starts (R122). -/
def OwedWrite.cover (o : OwedWrite) : OwedWrite := { o with covered := true }

/-- The start of a retained write: the content is gathered, the owners are told, and the valid marker on
the chip is cleared (R121). -/
def startRetainedWrite (s : State) : State :=
  { s with
    ret := { s.ret with
      writing := some (gatherContent s), rewrite := false,
      chip := { s.ret.chip with marker := false } },
    tags := { s.tags with table := s.tags.table.map TagEntry.markAtStart },
    meas := { s.meas with owed := s.meas.owed.map OwedWrite.cover },
    en := { s.en with owed := s.en.owed.map OwedWrite.cover } }

/-- A request for a rewrite: in IDLE it starts a write, in WRITING it sets rewrite-pending (R121). -/
def requestRewrite (s : State) : State :=
  match s.ret.writing with
  | none => startRetainedWrite s
  | some _ => { s with ret := { s.ret with rewrite := true } }

/-! ## Settings store (R128) -/

/-- The content in force of a block. -/
def contentInForce (cfg : InForce) : BlockName → BlockContent
  | .protection => .protection cfg.prot
  | .curve n => .curve n (cfg.curves.get n)
  | .battery => .battery cfg.battery
  | .radio => .radio cfg.radio
  | .roster => .roster cfg.roster
  | .capture => .capture cfg.capture

/-- The settings in force with a block's content replaced. -/
def putInForce (cfg : InForce) : BlockContent → InForce
  | .protection p => { cfg with prot := p }
  | .curve n c => { cfg with curves := cfg.curves.set n c }
  | .battery b => { cfg with battery := b }
  | .radio r => { cfg with radio := r }
  | .roster r => { cfg with roster := r }
  | .capture c => { cfg with capture := c }

/-- The default content of a block (R15, R20, R79, R105, R158, R167). -/
def defaultContent : BlockName → BlockContent
  | .protection => .protection defaultProtection
  | .curve n => .curve n (defaultCurve n)
  | .battery => .battery defaultBattery
  | .radio => .radio defaultRadio
  | .roster => .roster []
  | .capture => .capture defaultCapture

/-- The stored copy of a block. -/
def storedCopy (st : StoredSettings) : BlockName → Option StoredBlock
  | .protection => st.prot
  | .curve n => st.curves.get n
  | .battery => st.battery
  | .radio => st.radio
  | .roster => st.roster
  | .capture => st.capture

/-- The stored settings with one block's copy replaced. -/
def setStoredCopy (st : StoredSettings) (b : BlockName) (v : Option StoredBlock) : StoredSettings :=
  match b with
  | .protection => { st with prot := v }
  | .curve n => { st with curves := st.curves.set n v }
  | .battery => { st with battery := v }
  | .radio => { st with radio := v }
  | .roster => { st with roster := v }
  | .capture => { st with capture := v }

/-- The start of a settings write: it takes the content in force, and the stored copy is no longer
whole until the write completes. -/
def startSettingsWrite (b : BlockName) (s : State) : State :=
  { s with store := { s.store with
      writing := some (contentInForce s.cfg b), stored := setStoredCopy s.store.stored b none } }

/-- A request to write a block: it starts at once, waits its turn, or finds its write already waiting
(R128). -/
def requestSettingsWrite (b : BlockName) (s : State) : State :=
  match s.store.writing with
  | none => startSettingsWrite b s
  | some _ =>
    if b ∈ s.store.waiting then s
    else { s with store := { s.store with waiting := s.store.waiting ++ [b] } }

end Sys2Proof.Machine
end

