-- ==== Sys2Proof/Machine/SendOps.lean ====
section
/-! DEFINITION. The sending half of the radio controller (R149 to R154): the cost of a packet, the send
order, the packing, the start of a send, and the reply slot. -/

namespace Sys2Proof.Machine

/-- The quotient rounded up. -/
def ceilDiv (n d : Nat) : Nat := (n + d - 1) / d

/-- The cost in ms of a packet whose payload has this many bytes (R149): the key overhead and the
airtime of the whole packet, 16 bytes longer. -/
def packetCost (r : RadioSettings) (payload : Nat) : Nat :=
  r.keyOverhead + ceilDiv ((16 + payload) * 8 * 1000) r.bitRate

/-- The airtime credit is held at the cap in force (R149). -/
def holdCredit (s : State) : State :=
  { s with rad := { s.rad with credit := min s.rad.credit s.cfg.radio.cap } }

/-- A record is a candidate of its class (R150 steps 2 to 4): PENDING, and for URGENT and ROUTINE its
next try time reached. -/
def EventRecord.candidate (now : Nat) (c : EventClass) (r : EventRecord) : Bool :=
  decide (r.cls = c) && decide (r.radio = .pending)
    && (decide (c = .status) || decide (r.nextTry ≤ now))

/-- The candidates of R150 steps 2 to 4 in order, oldest first within a class. -/
def candidates (s : State) : List EventRecord :=
  s.eq.records.filter (EventRecord.candidate s.elapsed .urgent)
    ++ s.eq.records.filter (EventRecord.candidate s.elapsed .routine)
    ++ s.eq.records.filter (EventRecord.candidate s.elapsed .status)

/-- Packing (R151): at most so many records, while the next one fits in the room left. -/
def packRecords : Nat → Nat → List EventRecord → List EventRecord
  | 0, _, _ => []
  | _ + 1, _, [] => []
  | n + 1, room, r :: rs =>
    if r.wireLength ≤ room then r :: packRecords n (room - r.wireLength) rs else []

/-- The cost of a REPORTS packet of these records. -/
def reportsCost (r : RadioSettings) (l : List EventRecord) : Nat :=
  packetCost r ((l.map EventRecord.wireLength).sum)

/-- The longest prefix of at most `n` records whose packet the credit covers (R151); empty when not
even the first alone is covered. -/
def paidPrefix (r : RadioSettings) (credit : Nat) : Nat → List EventRecord → List EventRecord
  | 0, _ => []
  | n + 1, l =>
    if reportsCost r (l.take (n + 1)) ≤ credit then l.take (n + 1) else paidPrefix r credit n l

/-- A record of this number is packed (R132, R136). -/
def EventRecord.packIn (numbers : List Nat) (r : EventRecord) : EventRecord :=
  if r.number ∈ numbers then { r with inSend := true } else r

/-- The start of a send (R151): cost, marks, TX_REQUEST with the next send number, modem timer,
TRANSMITTING, and "transmitting" to the stager (R147). -/
def startSend (cost : Nat) (content : PacketContent) (records : Option (List Nat)) (s : State) :
    State :=
  { s with
    eq := { s.eq with records := s.eq.records.map (EventRecord.packIn (records.getD [])) },
    rad := { s.rad with
      credit := s.rad.credit - cost, state := .transmitting,
      send := some { number := s.rad.sendNumber, records := records },
      sendNumber := (s.rad.sendNumber + 1) % 256, modemTimer := some (s.elapsed + 5000),
      sent := s.rad.sent ++
        [{ number := s.rad.sendNumber, destination := s.cfg.radio.master,
           source := s.cfg.radio.own, stamp := s.clock, content := content }] },
    mail := { s.mail with stageRadio := s.mail.stageRadio ++ [true] } }

/-- The entry count and hold-pending flag of the tag byte: for TAG_QUERY those of the content the query
read (R93, R154), for another command those of the table as it stands. -/
def tagByteOf (r : SlotResult) (s : State) : Nat × Bool :=
  match r.tags with
  | some t => (t.2.length, t.1)
  | none => (s.tags.table.length, s.tags.holdPending)

/-- The RESULT packet of the reply slot (section 12.3). When the next event number, the queue occupancy and
the tag byte of another command are read is not stated: DESIGN CHOICE (log entry 64), at the start of the
send. -/
def resultContent (r : SlotResult) (s : State) : PacketContent :=
  .result r s.eq.next s.eq.records.length (tagByteOf r s).1 (tagByteOf r s).2

/-- The choice of the reply slot: sent as soon as the credit covers it; the result is marked in send
(R150 step 1, R154). -/
def sendResult (r : SlotResult) (s : State) : State :=
  let content := resultContent r s
  let cost := packetCost s.cfg.radio content.payloadLength
  if cost ≤ s.rad.credit then
    startSend cost content none
      { s with rad := { s.rad with slot := some { r with inSend := true } } }
  else s

/-- The choice of reports (R150 steps 2 to 4, R151). -/
def sendReports (s : State) : State :=
  let pack := packRecords 4 200 (candidates s)
  let paid := paidPrefix s.cfg.radio s.rad.credit pack.length pack
  match paid with
  | [] => s
  | r :: rs =>
    startSend (reportsCost s.cfg.radio (r :: rs)) (.reports (r :: rs))
      (some ((r :: rs).map EventRecord.number)) s

/-- The judgement of the send order (R150): in IDLE alone; the first choice that has content. -/
def judgeSend (s : State) : State :=
  match s.rad.state with
  | .idle =>
    match s.rad.slot with
    | some r => if r.inSend then sendReports s else sendResult r s
    | none => sendReports s
  | .off => s
  | .transmitting => s
  | .recovering => s

/-- A result enters the reply slot, replacing any result it holds (R154), and the send order is judged
(R150). -/
def putSlot (command number : Byte) (code : ResultCode) (tags : Option (Bool × List TagLine))
    (s : State) : State :=
  judgeSend { s with rad := { s.rad with
    slot := some { command := command, number := number, code := code, tags := tags, inSend := false } } }

end Sys2Proof.Machine
end

