-- ==== Sys2Proof/Machine/QueueOps.lean ====
section
/-! DEFINITION. The shared operations of the event queue (chapter 8): taking a record in, numbering,
eviction, removal, STATUS records, and the changes the radio controller names. -/

namespace Sys2Proof.Machine

/-- The queue's capacity (R139). -/
def queueCapacity : Nat := 64

/-- The radio part of a record is done (R132). -/
def EventRecord.radioDone (r : EventRecord) : Bool :=
  match r.radio with
  | .notForRadio => true
  | .acked => true
  | .dropped => true
  | .pending => false
  | .awaitingAck => false

/-- The cabinet part of a record is done (R132). -/
def EventRecord.cabinetDone (r : EventRecord) : Bool :=
  match r.cabinet with
  | .fetched => true
  | .notForCabinet => true
  | .pending => false

/-- Both parts are done (R138). -/
def EventRecord.finished (r : EventRecord) : Bool := r.radioDone && r.cabinetDone

/-- Records whose two parts are both done leave the queue, and after a removal the high-water arming is
judged (R138, R141). -/
def judgeRemoval (s : State) : State :=
  let kept := s.eq.records.filter fun r => !r.finished
  if kept.length < s.eq.records.length then
    { s with eq := { s.eq with
        records := kept, armed := s.eq.armed || decide (kept.length < 32) } }
  else s

/-- The record of this number is changed; a number that no record holds is ignored (R136). The record
is then judged for removal. -/
def changeRecord (number : Nat) (f : EventRecord → EventRecord) (s : State) : State :=
  judgeRemoval { s with eq := { s.eq with
    records := s.eq.records.map fun r => if r.number = number then f r else r } }

/-! ## Numbering (R125, R135) -/

/-- The next event number advances by one. When it becomes a multiple of 64 the event-number base
advances and a rewrite is requested (R125). -/
def advanceNumber (s : State) : State :=
  let n := (s.eq.next + 1) % 65536
  if n % 64 = 0 then
    requestRewrite { s with eq := { s.eq with next := n, base := (n + 64) % 65536 } }
  else { s with eq := { s.eq with next := n } }

/-- Numbers that records hold are passed over (R135); at most 64 are held. -/
def passOver (held : List Nat) : Nat → State → State
  | 0, s => s
  | n + 1, s => if s.eq.next ∈ held then passOver held n (advanceNumber s) else s

/-- The numbers held in the queue. -/
def heldNumbers (s : State) : List Nat := s.eq.records.map EventRecord.number

/-- The next event number after an assignment (R135). A record given up at the same arrival has left the
queue by then (R139): DESIGN CHOICE (log entry 80), its number counts as held by no record, so that the next
event number may come to rest on it. -/
def advancePast (s : State) : State := passOver (heldNumbers s) 65 (advanceNumber s)

/-! ## Eviction (R139) -/

/-- The list without its first member that meets a condition. -/
def removeFirst {α : Type} (p : α → Bool) : List α → List α
  | [] => []
  | x :: xs => if p x then xs else x :: removeFirst p xs

/-- One record is given up: the oldest STATUS, else the oldest ROUTINE, else the oldest URGENT whose
radio part is done, else the oldest URGENT (R139). -/
def evict (l : List EventRecord) : List EventRecord :=
  if l.any fun r => decide (r.cls = .status) then removeFirst (fun r => decide (r.cls = .status)) l
  else if l.any fun r => decide (r.cls = .routine) then
    removeFirst (fun r => decide (r.cls = .routine)) l
  else if l.any fun r => decide (r.cls = .urgent) && r.radioDone then
    removeFirst (fun r => decide (r.cls = .urgent) && r.radioDone) l
  else removeFirst (fun r => decide (r.cls = .urgent)) l

/-! ## Taking in (R134) -/

/-- The kind filter passes a kind (section 9.8, R134 step 4). -/
def filterPasses (s : State) (kind : Nat) : Bool := s.cfg.radio.filter.testBit kind

/-- The record of a body as R134 steps 3 to 5 make it, with the present number, stamp and states. -/
def newRecord (body : EventBody) (s : State) : EventRecord :=
  { number := s.eq.next, cls := body.cls, body := body, stamp := s.clock,
    radio :=
      if body.cls = .status then .pending
      else if filterPasses s body.kind then .pending else .notForRadio,
    attempts := 0, nextTry := s.elapsed, inSend := false,
    cabinet := if body.cls = .status then .notForCabinet else .pending, renewed := false }

/-- The high-water judgement after an arrival (R141). -/
def judgeHighWater (s : State) : State :=
  if s.eq.armed && decide (48 ≤ s.eq.records.length) then
    flagQueueHigh { s with eq := { s.eq with armed := false } }
  else s

/-- The waiting fetch is answered with the arriving record, which is judged for removal (R143). -/
def answerFetch (r : EventRecord) (s : State) : State :=
  match s.eq.fetch with
  | none => s
  | some f =>
    changeRecord r.number (fun x => { x with cabinet := .fetched })
      (answer f.request .ok (.event 0 r) { s with eq := { s.eq with fetch := none } })

/-- Room is made for an arriving record (R134 step 2). -/
def makeRoom (s : State) : State :=
  if queueCapacity ≤ s.eq.records.length then
    { s with eq := { s.eq with records := evict s.eq.records } }
  else s

/-- The numbering and queueing of a record (R134 steps 3 to 6). -/
def enqueue (r : EventRecord) (s : State) : State :=
  let s := advancePast s
  { s with eq := { s.eq with records := s.eq.records ++ [r] } }

/-- The notices of an arrival (R134 step 7). -/
def noticeArrival (r : EventRecord) (s : State) : State :=
  let s := if r.cabinet = .pending then flagEventPending s else s
  let s := if r.radio = .pending then judgeSend s else s
  judgeHighWater s

/-- A record is taken in (R134 steps 2 to 8). -/
def takeIn (body : EventBody) (s : State) : State :=
  let s := makeRoom s
  let r := newRecord body s
  let s := noticeArrival r (enqueue r s)
  if r.cabinet = .pending then answerFetch r s else s

/-! ## STATUS records (R137) -/

/-- The held STATUS record takes the new timestamp and body in place. -/
def EventRecord.renew (body : EventBody) (stamp : Stamp) (r : EventRecord) : EventRecord :=
  if r.cls = .status then
    { r with body := body, stamp := stamp, renewed := r.renewed || r.inSend }
  else r

/-- A STATUS record arrives, with the status content of the part at its arrival (R137, R157). -/
def statusArrives (s : State) : State :=
  let body := EventBody.status (statusContent s)
  match s.eq.records.find? fun r => decide (r.cls = .status) with
  | some held =>
    let s := { s with eq := { s.eq with
      records := s.eq.records.map (EventRecord.renew body s.clock) } }
    if held.inSend then s else judgeSend s
  | none =>
    if s.eq.records.length < queueCapacity then takeIn body s
    else if s.eq.records.any fun r => decide (r.cls = .routine) then takeIn body s
    else s

/-- A record of the start-up procedure waits to be taken. -/
def startUpWaits (l : List (RecordSource × EventBody)) : Bool :=
  l.any fun e => decide (e.1 = .startUp)

/-- A source's records are taken: the queue takes records from the end of the retained-record step of
start-up onward (R144), those of the start-up procedure first (R127). -/
def mayArrive (source : RecordSource) (s : State) : Bool :=
  s.readsDone && (decide (source = .startUp) || !startUpWaits s.mail.raised)

/-- A STATUS record is handed to the queue. Where the queue may not take it yet, it waits behind the
records of the start-up procedure (R127, R144) and arrives as they do (log entry 42). -/
def takeStatus (s : State) : State :=
  if mayArrive .radio s then statusArrives s else raise .radio (.status (statusContent s)) s

/-! ## Fetching (R142) -/

/-- The number of records whose cabinet state is PENDING. -/
def cabinetPending (l : List EventRecord) : Nat :=
  (l.filter fun r => decide (r.cabinet = .pending)).length

/-! ## The end of a send (R152, R154) -/

/-- A packed record after a DONE (R152, R137): the waits are in elapsed ms, the base in seconds. -/
def EventRecord.doneAt (now base : Nat) (r : EventRecord) : EventRecord :=
  if r.inSend then
    match r.radio with
    | .pending =>
      if r.cls = .status then
        if r.renewed then { r with inSend := false, renewed := false }
        else { r with inSend := false, radio := .dropped }
      else
        let a := min 255 (r.attempts + 1)
        { r with
          inSend := false, radio := .awaitingAck, attempts := a,
          nextTry := now + 1000 * min (base * 2 ^ (a - 1)) (16 * base) }
    | .notForRadio => { r with inSend := false }
    | .awaitingAck => { r with inSend := false }
    | .acked => { r with inSend := false }
    | .dropped => { r with inSend := false }
  else r

/-- A packed record after a FAIL: its in send mark is cleared, and a renewed mark with it. -/
def EventRecord.failSend (r : EventRecord) : EventRecord :=
  if r.inSend then { r with inSend := false, renewed := false } else r

/-- The changes a send's end names for its packed records, one after the other (R152). -/
def markPacked (f : EventRecord → EventRecord) : List Nat → State → State
  | [], s => s
  | n :: ns, s => markPacked f ns (changeRecord n f s)

/-- The reply slot at the end of a RESULT send (R154). -/
def slotAfter (done : Bool) (slot : Option SlotResult) : Option SlotResult :=
  match slot with
  | none => none
  | some r =>
    if r.inSend then (if done then none else some { r with inSend := false }) else some r

/-- The end of the send in flight (R152, R154): the packed records are marked, the modem timer stops,
and the stager is handed "not transmitting" (R147). The radio state is settled by the caller. -/
def endSend (done : Bool) (s : State) : State :=
  match s.rad.send with
  | none => s
  | some send =>
    let s := { s with
      rad := { s.rad with send := none, modemTimer := none },
      mail := { s.mail with stageRadio := s.mail.stageRadio ++ [false] } }
    match send.records with
    | some numbers =>
      markPacked
        (if done then EventRecord.doneAt s.elapsed s.cfg.radio.ackBase else EventRecord.failSend)
        numbers s
    | none => { s with rad := { s.rad with slot := slotAfter done s.rad.slot } }

/-- The radio controller enters IDLE and judges its send order (R147, R150). -/
def enterRadioIdle (s : State) : State :=
  judgeSend { s with rad := { s.rad with state := .idle } }

end Sys2Proof.Machine
end

