-- ==== Sys2Proof/Machine/EnergyOps.lean ====
section
/-! DEFINITION. The shared operations of the actuator and energy unit (chapter 4): the bank charger, the
levels, the stroke request queue, the arbiter, and the end of a stroke. -/

namespace Sys2Proof.Machine

/-! ## Handing messages to the sequence controller -/

/-- A grant, a result or a refusal is handed to the sequence controller. -/
def handStroke (m : StrokeMsg) (s : State) : State :=
  { s with mail := { s.mail with strokes := s.mail.strokes ++ [m] } }

/-- Each of these closes is refused with a reason (R64, R65, R76). The spec states no order among several
refused on one event: DESIGN CHOICE (log entry 78), they are handed in queue order. -/
def refuseAll (reason : RefusalReason) (l : List StrokeRequest) (s : State) : State :=
  { s with mail := { s.mail with
      strokes := s.mail.strokes ++ l.map fun r => StrokeMsg.refusal r.poles reason } }

/-! ## The bank charger (R60, R61) -/

/-- The charger enters a state; a change between FULL and any other is handed to the battery manager
(R61). -/
def setBankCharger (c : BankCharger) (s : State) : State :=
  let full := decide (c = .full)
  let s' := { s with en := { s.en with charger := c, bankFullSaid := full } }
  if decide (s.en.charger = .full) = full then s'
  else { s' with mail := { s'.mail with bank := s'.mail.bank ++ [full] } }

/-- The charger state a bank voltage sample gives (R60). -/
def chargerAtSample (c : BankCharger) (bank : Nat) : BankCharger :=
  match c with
  | .charging => if 9600 ≤ bank then .full else .charging
  | .full => if bank < 9200 then .charging else .full
  | .held => .held

/-- The charger on leaving HELD (R61). -/
def chargerReleased (bank : Nat) : BankCharger := if bank < 9600 then .charging else .full

/-! ## Levels and drive sets (R62, R67) -/

/-- The level in force for a kind of stroke and a number of poles. For no pole the spec gives no level:
the value is free (log entry 57). -/
def strokeLevel (p : Protection) (k : StrokeKind) (n : Nat) : Nat :=
  match k, n with
  | _, 0 => Config.levelOfNone
  | .trip, 1 => p.trip1
  | .trip, 2 => p.trip2
  | .trip, _ => p.trip3
  | .close, 1 => p.close1
  | .close, 2 => p.close2
  | .close, _ => p.close3

/-- The target pole state of a kind of stroke. -/
def targetState : StrokeKind → PoleState
  | .trip => .opened
  | .close => .closed

/-- The poles that show a pole state. -/
def showing (view : Tri PoleState) (st : PoleState) : PoleSet := view.map fun v => decide (v = st)

/-- The poles of a request that do not show its target (R67); UNKNOWN does not show it. -/
def driveSet (view : Tri PoleState) (k : StrokeKind) (poles : PoleSet) : PoleSet :=
  poles.diff (showing view (targetState k))

/-! ## The queue (R63, R66) -/

def StrokeRequest.isTrip (r : StrokeRequest) : Bool := decide (r.kind = .trip)

def StrokeRequest.isClose (r : StrokeRequest) : Bool := decide (r.kind = .close)

/-- A trip request of attempt 1 or of attempt 2. -/
def StrokeRequest.isTripOf (attempt : Nat) (r : StrokeRequest) : Bool :=
  r.isTrip && decide (r.attempt = attempt)

/-- The queue's capacity (R63). -/
def strokeCapacity : Nat := 8

/-- A request enters in its place: a trip ahead of every close, otherwise behind (R63). -/
def insertRequest (r : StrokeRequest) (q : List StrokeRequest) : List StrokeRequest :=
  match r.kind with
  | .trip => q.filter StrokeRequest.isTrip ++ [r] ++ q.filter StrokeRequest.isClose
  | .close => q ++ [r]

/-- The union of the pole sets of some requests. -/
def unionPoles (l : List StrokeRequest) : PoleSet := l.foldl (fun u r => u.union r.poles) Tri.empty

/-- The union of the joined poles of some requests. -/
def unionJoined (l : List StrokeRequest) : PoleSet := l.foldl (fun u r => u.union r.joined) Tri.empty

/-- A request without some poles. -/
def StrokeRequest.without (poles : PoleSet) (r : StrokeRequest) : StrokeRequest :=
  { r with poles := r.poles.diff poles, joined := r.joined.diff poles }

/-- The poles are taken out of the requests that meet a condition; a request left with none goes. -/
def takeOut (poles : PoleSet) (which : StrokeRequest → Bool) (q : List StrokeRequest) :
    List StrokeRequest :=
  (q.map fun r => if which r then r.without poles else r).filter fun r => !r.poles.isEmpty

/-- The list without its last member that meets a condition. -/
def removeLast {α : Type} (p : α → Bool) (l : List α) : List α := (removeFirst p l.reverse).reverse

/-- A trip that needs a new entry in a full queue displaces the newest waiting close (R65). -/
def displace (s : State) : State :=
  if strokeCapacity ≤ s.en.queue.length then
    match s.en.queue.reverse.find? StrokeRequest.isClose with
    | some r =>
      refuseAll .displaced [r]
        { s with en := { s.en with queue := removeLast StrokeRequest.isClose s.en.queue } }
    | none => s
  else s

/-! ## Tags that block a close (R65, R67) -/

/-- A HOT_LINE, DO_NOT_CLOSE or SYSTEM_HOLD tag is held, or hold-pending is set. -/
def closeTagHeld (t : Tags) : Bool :=
  t.holdPending || t.table.any fun e =>
    decide (e.kind = .hotLine) || decide (e.kind = .doNotClose) || decide (e.kind = .systemHold)

/-- A REMOTE_BLOCK tag is held. -/
def remoteBlockHeld (t : Tags) : Bool := t.table.any fun e => decide (e.kind = .remoteBlock)

/-- The origins a REMOTE_BLOCK tag blocks. -/
def StrokeOrigin.remoteBlocked : StrokeOrigin → Bool
  | .protection => true
  | .commandRadio => true
  | .commandCabinet => false
  | .threePole => false

/-- The tag table blocks a close of this origin. -/
def tagBlocks (t : Tags) (o : StrokeOrigin) : Bool :=
  closeTagHeld t || (o.remoteBlocked && remoteBlockHeld t)

/-! ## The arbiter (R67, R68) -/

/-- The conditions of a close alone (R67). -/
def closePermitted (s : State) (r : StrokeRequest) : Bool :=
  decide (s.bat.power ≠ some .holdover) && !s.meas.inputs.leverTripped && !tagBlocks s.tags r.origin

/-- What the head's kind asks for beside the bank and the settle time. -/
def headPermitted (s : State) (r : StrokeRequest) : Bool :=
  match r.kind with
  | .trip => true
  | .close => closePermitted s r

/-- The bank covers the level of a request, and the settle time has run out. -/
def energyReady (s : State) (r : StrokeRequest) : Bool :=
  s.en.settle.isNone
    && decide (strokeLevel s.cfg.prot r.kind (driveSet s.en.view r.kind r.poles).card ≤ s.en.bank)

/-- The grant notice of a request: the energy wait is the grant time less the arrival time (R68). -/
def grantNotice (s : State) (r : StrokeRequest) : StrokeMsg :=
  .grant { kind := r.kind, poles := r.poles, attempt := r.attempt, wait := s.elapsed - r.arrival }

/-- The stroke timer (R69). -/
def strokeTime : StrokeKind → Nat
  | .trip => 60
  | .close => 100

/-- The stroke that a grant begins (R69). -/
def newStroke (s : State) (r : StrokeRequest) : Stroke :=
  { kind := r.kind, poles := r.poles, drive := driveSet s.en.view r.kind r.poles, origin := r.origin,
    joined := r.joined, attempt := r.attempt, bankAtGrant := s.en.bank, cut := false, pulse := true,
    deadline := s.elapsed + strokeTime r.kind }

/-- A completion without a stroke: every pole of the request has reached the target (R68). -/
def emptyResult (r : StrokeRequest) : StrokeMsg :=
  .result
    { kind := r.kind, poles := r.poles, joined := r.joined, attempt := r.attempt, reached := r.poles,
      missed := Tri.empty, cut := false, final := true }

/-- The arbiter's judgement of the head (R67, R68): with an empty drive set it waits only until no
stroke is in flight and then completes without one, giving way to the next; otherwise it is granted
when everything holds, and left waiting when something does not. -/
def arbitrate : Nat → State → State
  | 0, s => s
  | n + 1, s =>
    match s.en.stroke with
    | some _ => s
    | none =>
      match s.en.queue with
      | [] => s
      | r :: rest =>
        if (driveSet s.en.view r.kind r.poles).isEmpty then
          arbitrate n
            (handStroke (emptyResult r)
              (handStroke (grantNotice s r) { s with en := { s.en with queue := rest } }))
        else if headPermitted s r && energyReady s r then
          handStroke (grantNotice s r)
            { s with en := { s.en with queue := rest, stroke := some (newStroke s r) } }
        else s

/-- The arbiter judges whenever something that bears on the grant has arrived (R67). -/
def judgeArbiter (s : State) : State := arbitrate (s.en.queue.length + 1) s

/-! ## The end of a stroke (R69, R71 to R74) -/

/-- The result of a stroke (R69, R72). -/
def strokeOutcome (k : Stroke) (missed : PoleSet) : StrokeOutcome :=
  { kind := k.kind, poles := k.poles, joined := k.joined, attempt := k.attempt,
    reached := k.poles.diff missed, missed := missed, cut := k.cut,
    final := match k.kind with
      | .close => true
      | .trip => missed.isEmpty || decide (k.attempt ≠ 1) }

/-- The missed poles whose records the retry of a stroke carries on: those that had joined the failed
stroke, and those that had joined a waiting trip the retry takes them out of (R44, R72). -/
def retryJoined (k : Stroke) (missed : PoleSet) (q : List StrokeRequest) : PoleSet :=
  (k.joined.union (unionJoined (q.filter (StrokeRequest.isTripOf 1)))).inter missed

/-- The retry of a first attempt (R72): the missed poles leave the waiting trips of attempt 1, and a
request of attempt 2 stands at the head. -/
def queueRetry (k : Stroke) (missed : PoleSet) (s : State) : State :=
  let joined := retryJoined k missed s.en.queue
  let s := { s with en := { s.en with queue := takeOut missed (StrokeRequest.isTripOf 1) s.en.queue } }
  let s := displace s
  { s with en := { s.en with
      queue := { kind := .trip, poles := missed, origin := k.origin, joined := joined,
                 arrival := s.elapsed, attempt := 2, alarm := false } :: s.en.queue } }

/-- The FAILED marks of a second attempt, the retained rewrite and POLE_FAIL (R73). -/
def markFailed (k : Stroke) (missed : PoleSet) (s : State) : State :=
  raise .energy (.poleFail missed k.origin s.en.view k.bankAtGrant)
    (requestRewrite { s with en := { s.en with failed := s.en.failed.union missed } })

/-- What missed poles bring at the end of a stroke, before its result is handed. -/
def strokeFailure (k : Stroke) (missed : PoleSet) (s : State) : State :=
  if missed.isEmpty then s
  else
    match k.kind with
    | .close => s
    | .trip => if k.attempt = 1 then queueRetry k missed s else markFailed k missed s

/-- The stroke in flight ends with these poles missed (R69): the settle time starts, the result is
handed, and the arbiter judges. -/
def endStroke (k : Stroke) (missed : PoleSet) (s : State) : State :=
  let s := { s with en := { s.en with stroke := none, settle := some (s.elapsed + 200) } }
  judgeArbiter (handStroke (.result (strokeOutcome k missed)) (strokeFailure k missed s))

/-! ## The power state (R61, R76) -/

/-- The waiting closes that meet a condition leave the queue and are refused. -/
def refuseCloses (reason : RefusalReason) (which : StrokeRequest → Bool) (s : State) : State :=
  let refused := s.en.queue.filter fun r => r.isClose && which r
  refuseAll reason refused
    { s with en := { s.en with queue := s.en.queue.filter fun r => !(r.isClose && which r) } }

/-- The unit takes a power state (R61, R76). -/
def energyPowerState (new : PowerState) (s : State) : State :=
  if new = .holdover then
    judgeArbiter (refuseCloses .holdover (fun _ => true) (setBankCharger .held s))
  else if s.en.charger = .held then
    judgeArbiter (setBankCharger (chargerReleased s.en.bank) s)
  else judgeArbiter s

/-- A bank voltage sample reaches the unit (R60, R67). -/
def takeBankSample (bank : Nat) (s : State) : State :=
  let s := { s with en := { s.en with bank := bank } }
  judgeArbiter (setBankCharger (chargerAtSample s.en.charger bank) s)

end Sys2Proof.Machine
end

