-- ==== Sys2Proof/Machine/BatteryOps.lean ====
section
/-! DEFINITION. The shared operations of the battery manager (chapter 6): the compensated targets, the
charger, the battery test, the power state and the crew-visit window. -/

namespace Sys2Proof.Machine

/-! ## Times -/

/-- A time in ms given in whole seconds (log entry 18). -/
def wholeSeconds (ms : Nat) : Nat :=
  if ms % 1000 ≠ 0 ∧ Config.roundsUp ms then ms / 1000 + 1 else ms / 1000

/-- The time left on a timer, in whole seconds. -/
def timeLeft (deadline : Option Nat) (s : State) : Option Nat :=
  deadline.map fun d => wholeSeconds (d - s.elapsed)

/-- The test period in ms (R105). -/
def periodMs (hours : Nat) : Nat := hours * 3600000

/-! ## Targets (R101) -/

/-- An integer held within two bounds. -/
def holdWithin (lo hi v : Int) : Int := if v < lo then lo else if hi < v then hi else v

/-- The battery temperature of a delivery: 25 °C where the average is marked FAULT. -/
def batteryTemp (a : Averages) : Int := a.temp.getD 25

/-- A compensated target in 10 mV, from its 25 °C value in 10 mV, k and the temperature (R101). -/
def compensated (v25 k : Nat) (t : Int) : Int :=
  (holdWithin 25200 29800 ((v25 : Int) * 10 - (k : Int) * (holdWithin (-20) 50 t - 25)) + 5) / 10

/-- Both targets of a BATTERY block at a delivery's temperature. -/
def targetsOf (b : BatterySettings) (a : Averages) : Targets :=
  { absorb := compensated b.absorb25 b.k (batteryTemp a),
    float := compensated b.float25 b.k (batteryTemp a) }

/-- The targets are recomputed, once a delivery has arrived (R101). -/
def computeTargets (s : State) : State :=
  if s.meas.delivered then
    { s with bat := { s.bat with targets := some (targetsOf s.cfg.battery s.meas.averages) } }
  else s

/-! ## The test gate (R108, R109) -/

/-- The test gate. -/
def testGate (s : State) : Bool :=
  decide (s.bat.power = some .run) && s.meas.supply && s.bat.bankFull
    && decide (s.bat.charger = .float) && s.bat.atRest

/-- A test begins (R109): the charger rests, the rest timer runs for 30 s, and the stager is told. -/
def beginTest (s : State) : State :=
  { s with
    bat := { s.bat with
      testState := .testRest, charger := .testRest, tail := 0, sag := 0,
      restTimer := some (s.elapsed + 30000) },
    mail := { s.mail with stageTest := s.mail.stageTest ++ [true] } }

/-- The gate is judged for a test in WAITING (R108). -/
def judgeGate (s : State) : State :=
  if decide (s.bat.testState = .waiting) && testGate s then beginTest s else s

/-! ## The charger (R99, R100, R102 to R104) -/

/-- The charger goes to BULK or OFF by the supply as it stands (R104, R110, R112). -/
def chargerBySupply (s : State) : State :=
  { s with bat := { s.bat with
      charger := if s.meas.supply then .bulk else .off, tail := 0, sag := 0, absorbTimer := none } }

/-- A change of supply reaches the charger (R100). -/
def supplyMoves (present : Bool) (s : State) : State :=
  match s.bat.charger with
  | .off =>
    if present then { s with bat := { s.bat with charger := .bulk, tail := 0, sag := 0 } } else s
  | .bulk => if present then s else chargerBySupply s
  | .absorb => if present then s else chargerBySupply s
  | .float => if present then s else chargerBySupply s
  | .testRest => s
  | .fault => s

/-- The charger drive follows the state, with the targets and the bulk current as they stand (R99). Before
the first targets the charger is OFF and needs none (R101). -/
def chargerDrive (s : State) : ChargerDrive :=
  match s.bat.targets with
  | none => .off
  | some t =>
    match s.bat.charger with
    | .off => .off
    | .bulk => .currentHeld s.cfg.battery.bulk t.absorb
    | .absorb => .voltageHeld t.absorb s.cfg.battery.bulk
    | .float => .voltageHeld t.float s.cfg.battery.bulk
    | .testRest => .off
    | .fault => .off

/-- The absorb time in ms (R105). -/
def absorbMs (b : BatterySettings) : Nat := b.absorbMin * 60000

/-- Entry to ABSORB (R102). -/
def enterAbsorb (s : State) : State :=
  { s with bat := { s.bat with
      charger := .absorb, absorbEntry := s.elapsed,
      absorbTimer := some (s.elapsed + absorbMs s.cfg.battery), tail := 0 } }

/-- Entry to FLOAT (R102). -/
def enterFloat (s : State) : State :=
  { s with bat := { s.bat with charger := .float, absorbTimer := none, sag := 0 } }

/-- A delivery in ABSORB (R102): the tail count. -/
def judgeTail (i : Int) (s : State) : State :=
  let tail := if i < (s.cfg.battery.tail : Int) then s.bat.tail + 1 else 0
  let s := { s with bat := { s.bat with tail := tail } }
  if 60 ≤ tail then enterFloat s else s

/-- A delivery in FLOAT (R103): the sag count, against the float target less 1.00 V. -/
def judgeSag (v float : Int) (s : State) : State :=
  let sag := if v < float - 100 then s.bat.sag + 1 else 0
  if 60 ≤ sag then { s with bat := { s.bat with charger := .bulk, tail := 0, sag := 0 } }
  else { s with bat := { s.bat with sag := sag } }

/-- The battery is too hot, above 55 °C (R104). -/
def tooHot (a : Averages) : Bool := decide (55 < batteryTemp a)

/-- The battery voltage is too high, above 31.00 V (R104). -/
def tooHigh (a : Averages) : Bool := decide (3100 < a.vBatt)

/-- FAULT may be left (R104). -/
def recovered (a : Averages) : Bool := decide (batteryTemp a < 50) && decide (a.vBatt < 3000)

/-! ## The battery test (R110 to R113) -/

/-- An outcome: the record replaces the last test and BATTERY_TEST is raised (R111). -/
def reportTest (r : TestRecord) (s : State) : State :=
  raise .battery (.batteryTest r) { s with bat := { s.bat with lastTest := some r } }

/-- The test in TEST_REST or LOADED has ended: the load is off, the timers are stopped, and the stager is
told. -/
def endTest (s : State) : State :=
  { s with
    bat := { s.bat with loadOn := false, restTimer := none, loadTimer := none, v0 := none },
    mail := { s.mail with stageTest := s.mail.stageTest ++ [false] } }

/-- The test state after an abort (R113). -/
def afterAbort (cause : AbortCause) (s : State) : State :=
  if s.bat.testKind = some .scheduled ∧ cause ≠ .restart ∧ s.bat.retries < 4 then
    { s with bat := { s.bat with
        testState := .retryWait, testKind := none, retries := s.bat.retries + 1,
        retryTimer := some (s.elapsed + 900000) } }
  else { s with bat := { s.bat with testState := .idle, testKind := none } }

/-- The record of an aborted test (R112). -/
def abortRecord (cause : AbortCause) (s : State) : TestRecord :=
  { verdict := .aborted, kind := s.bat.testKind.getD .scheduled,
    v0 := if s.bat.testState = .loaded then s.bat.v0 else none, v1 := none, i1 := none, r := none,
    cause := some cause, phase := some s.bat.testState, time := s.clock }

/-- The battery test load is connected (R109): the battery manager has switched it on, the power state is
RUN, every sequence record is in REST or LOCKOUT, and no departure that aborts the test is on its way
(R38, R112; log entry 60). -/
def loadConnected (s : State) : Bool :=
  s.bat.loadOn && decide (s.bat.power = some .run)
    && (allPoles.all fun p => (s.seq.recs.get p).state.resting)
    && !s.mail.rest.any RestNotice.departure

/-- The test runs: TEST_REST or LOADED. -/
def TestState.running : TestState → Bool
  | .testRest => true
  | .loaded => true
  | .idle => false
  | .waiting => false
  | .retryWait => false

/-- A running test is aborted (R112). -/
def abortTest (cause : AbortCause) (s : State) : State :=
  if s.bat.testState.running then
    let s' := reportTest (abortRecord cause s) (endTest s)
    afterAbort cause (if cause = .chargerFault then s' else chargerBySupply s')
  else s

/-- The record of a test that never ran (R111). -/
def notRunRecord (s : State) : TestRecord :=
  { verdict := .notRun, kind := s.bat.testKind.getD .scheduled, v0 := none, v1 := none, i1 := none,
    r := none, cause := none, phase := none, time := s.clock }

/-- A waiting test is dropped with NOT_RUN. -/
def dropWaiting (s : State) : State := reportTest (notRunRecord s) s

/-- A test enters WAITING and its gate is judged (R108). -/
def awaitGate (kind : TestKind) (s : State) : State :=
  judgeGate { s with bat := { s.bat with
    testState := .waiting, testKind := some kind, retryTimer := none } }

/-- The discharge current under load in 10 mA: the battery current average negated (R110). -/
def dischargeCurrent (a : Averages) : Int := -a.iBatt

/-- The resistance in mΩ from voltages in 10 mV and the current in 10 mA (R110). -/
def resistance (v0 v1 i1 : Int) : Nat := if v0 ≤ v1 then 0 else ((v0 - v1) * 1000 / i1).toNat

/-- The verdict of a test whose load time has run out (R110). -/
def testVerdict (b : BatterySettings) (v0 v1 i1 : Int) : Verdict :=
  if i1 < 50 then .invalid
  else if v1 < (b.vMin : Int) then .fail
  else if b.rLimit < resistance v0 v1 i1 then .weak
  else .pass

/-- The record of a test whose load time has run out (R110, R111). -/
def loadRecord (s : State) : TestRecord :=
  let v0 := s.bat.v0.getD 0
  let v1 := s.meas.averages.vBatt
  let i1 := dischargeCurrent s.meas.averages
  let verdict := testVerdict s.cfg.battery v0 v1 i1
  { verdict := verdict, kind := s.bat.testKind.getD .scheduled, v0 := s.bat.v0, v1 := some v1,
    i1 := some i1, r := if verdict = .invalid then none else some (resistance v0 v1 i1),
    cause := none, phase := none, time := s.clock }

/-! ## The charger at a delivery (R102 to R104) -/

/-- Entry to FAULT (R104): the event, and the abort of a test that the charger was resting for. The order of
the two records is DEDUCED (log entry 88): R104 raises CHARGER_FAULT before it names the abort, and R134 keeps
the order in which a rule raises them. -/
def enterChargerFault (s : State) : State :=
  let a := s.meas.averages
  let left := s.bat.charger
  let s := { s with bat := { s.bat with charger := .fault, absorbTimer := none, tail := 0, sag := 0 } }
  abortTest .chargerFault
    (raise .battery (.chargerFault left a.vBatt a.temp (tooHot a) (tooHigh a)) s)

/-- The judgement of the charger at a delivery (R102 to R104). FAULT is judged first, and one delivery
makes at most one transition (log entry 19). -/
def judgeCharger (s : State) : State :=
  let a := s.meas.averages
  if s.bat.charger = .fault then (if recovered a then chargerBySupply s else s)
  else if tooHot a || tooHigh a then enterChargerFault s
  else
    match s.bat.targets with
    | none => s
    | some t =>
      match s.bat.charger with
      | .bulk => if t.absorb ≤ a.vBatt then enterAbsorb s else s
      | .absorb => judgeTail a.iBatt s
      | .float => judgeSag a.vBatt t.float s
      | .off => s
      | .testRest => s
      | .fault => s

/-! ## The crew-visit window and the cabinet power switch (R118) -/

/-- The cabinet controller power switch by power state and window; it is on before the first power state
(R116). -/
def cabinetSwitchFor (power : Option PowerState) (window : Bool) : Bool :=
  match power with
  | none => true
  | some .run => true
  | some .shedRadio => true
  | some .shedHost => window
  | some .holdover => false

/-- The switch is set, and a change is handed to the cabinet link controller. -/
def setCabinetSwitch (s : State) : State :=
  let on := cabinetSwitchFor s.bat.power s.bat.window.isSome
  if on = s.bat.cabinetSwitch then s
  else
    { s with
      bat := { s.bat with cabinetSwitch := on },
      mail := { s.mail with cabinetPower := s.mail.cabinetPower ++ [on] } }

/-- "crew frame" is taken by the power state (R118). -/
def crewFrame (s : State) : State :=
  if s.bat.power = some .holdover then s
  else setCabinetSwitch { s with bat := { s.bat with window := some (s.elapsed + 900000) } }

/-! ## The power state (R115 to R117) -/

/-- The fall level of a power state, in 10 mV (R115); HOLDOVER has none. -/
def fallLevel : PowerState → Option Int
  | .run => some 2300
  | .shedRadio => some 2240
  | .shedHost => some 2160
  | .holdover => none

/-- The rise level of a power state (R115); RUN has none. -/
def riseLevel : PowerState → Option Int
  | .run => none
  | .shedRadio => some 2440
  | .shedHost => some 2480
  | .holdover => some 2500

/-- One step down. -/
def PowerState.lower : PowerState → PowerState
  | .run => .shedRadio
  | .shedRadio => .shedHost
  | .shedHost => .holdover
  | .holdover => .holdover

/-- One step up. -/
def PowerState.higher : PowerState → PowerState
  | .run => .run
  | .shedRadio => .run
  | .shedHost => .shedRadio
  | .holdover => .shedHost

/-- The first power state, from the first average alone (R116). -/
def firstPowerState (v : Int) : PowerState :=
  if 2300 ≤ v then .run else if 2240 ≤ v then .shedRadio else if 2160 ≤ v then .shedHost
  else .holdover

/-- The fall count after a delivery. -/
def fallAfter (p : PowerState) (v : Int) (n : Nat) : Nat :=
  match fallLevel p with
  | some l => if v < l then n + 1 else 0
  | none => 0

/-- The rise count after a delivery. -/
def riseAfter (p : PowerState) (v : Int) (n : Nat) : Nat :=
  match riseLevel p with
  | some l => if l < v then n + 1 else 0
  | none => 0

/-- The modem is permitted (R117). -/
def modemPermitted (p : Option PowerState) : Bool := decide (p = some .run)

/-- A change of modem permission is handed to the radio controller (R117); the first setting reaches it
with "started" (R130). -/
def handPermission (old : Option PowerState) (new : PowerState) (s : State) : State :=
  if old.isSome && (modemPermitted old != modemPermitted (some new)) then
    { s with mail := { s.mail with permission := s.mail.permission ++ [modemPermitted (some new)] } }
  else s

/-- The power state is set (R115 to R118): the window, the cabinet switch, the actuator and energy unit,
the modem permission, the battery test, and the POWER_STATE event. On entry to HOLDOVER the spec does not say
whether the event tells the crew-visit window as it was or as it is: DESIGN CHOICE (log entry 89), the window
closes first (R118) and the event reports it closed. -/
def setPowerState (new : PowerState) (s : State) : State :=
  let old := s.bat.power
  let s := { s with bat := { s.bat with
    power := some new, fall := 0, rise := 0,
    window := if new = .holdover then none else s.bat.window } }
  let s := handPermission old new (energyPowerState new (setCabinetSwitch s))
  let s := raise .battery
    (.powerState old new s.meas.averages.vBatt s.bat.window.isSome) s
  judgeGate (if old = some .run then abortTest .powerState s else s)

/-- The power state is judged at a delivery (R115). -/
def judgePower (p : PowerState) (s : State) : State :=
  let v := s.meas.averages.vBatt
  let fall := fallAfter p v s.bat.fall
  let rise := riseAfter p v s.bat.rise
  if 10 ≤ fall then setPowerState p.lower s
  else if 60 ≤ rise then setPowerState p.higher s
  else { s with bat := { s.bat with fall := fall, rise := rise } }

/-! ## The apply of a BATTERY block (R101, R102, R106) -/

/-- The absorb timer is judged against a new absorb time from the entry to ABSORB (R102). -/
def applyAbsorbTime (s : State) : State :=
  if s.bat.charger = .absorb then
    if s.elapsed < s.bat.absorbEntry + absorbMs s.cfg.battery then
      { s with bat := { s.bat with
          absorbTimer := some (s.bat.absorbEntry + absorbMs s.cfg.battery) } }
    else judgeGate (enterFloat s)
  else s

/-- A changed test period of 0 (R106). -/
def stopTests (s : State) : State :=
  let s := { s with bat := { s.bat with testTimer := none } }
  let s :=
    if s.bat.testState = .waiting ∧ s.bat.testKind = some .scheduled then
      let s := dropWaiting s
      { s with bat := { s.bat with testState := .idle, testKind := none } }
    else if s.bat.testState = .retryWait then
      { s with bat := { s.bat with testState := .idle, testKind := none, retryTimer := none } }
    else s
  { s with bat := { s.bat with retries := 0 } }

/-- A changed test period (R106). -/
def applyTestPeriod (old : Nat) (s : State) : State :=
  let new := s.cfg.battery.testPeriod
  if new = old then s
  else if new = 0 then stopTests s
  else { s with bat := { s.bat with testTimer := some (s.elapsed + periodMs new) } }

/-- The battery manager takes a BATTERY block that has been put in force. The period is taken before the
absorb time, so that a period of 0 drops a waiting test before the charger can bring its gate about
(R106). -/
def applyBattery (oldPeriod : Nat) (s : State) : State :=
  applyAbsorbTime (applyTestPeriod oldPeriod (computeTargets s))

end Sys2Proof.Machine
end

