-- ==== Sys2Proof/Machine/SlowChannels.lean ====
section
/-! DEFINITION. The slow channels (section 1.2): the 100 ms samples and the 1 s averages. -/

namespace Sys2Proof.Machine

/-- A sample held within the channel's range (R3). -/
def clampTo (lo hi v : Int) : Int := if v < lo then lo else if hi < v then hi else v

/-- A new sample enters a window of ten; the oldest leaves a full one (R3). -/
def pushWindow (w : List Int) (v : Int) : List Int := (w ++ [v]).drop (w.length + 1 - 10)

/-- A temperature sample is invalid: the sensor is open or shorted (R6). -/
def badTemperature (t : Int) : Bool := decide (t < -45) || decide (90 < t)

/-- An invalid temperature sample (R6): in NORMAL it moves the channel to FAULT and raises SENSOR_FAULT. -/
def takeBadTemperature (t : Int) (s : State) : State :=
  let s' := { s with meas := { s.meas with tempFault := true, tempBad := true } }
  if s.meas.tempFault then s' else raise .measurement (.sensorFault (decide (90 < t))) s'

/-- The temperature sample of an expiry (R6). -/
def takeTemperature (t : Int) (s : State) : State :=
  if badTemperature t then takeBadTemperature t s
  else
    { s with meas := { s.meas with
        windows := { s.meas.windows with temp := pushWindow s.meas.windows.temp (clampTo (-40) 85 t) } } }

/-- The samples of the other four channels, and the next expiry (R3). -/
def takeSamples (vBatt iBatt vBank vSupply : Int) (s : State) : State :=
  { s with meas := { s.meas with
      windows := { s.meas.windows with
        vBatt := pushWindow s.meas.windows.vBatt (clampTo 0 4000 vBatt),
        iBatt := pushWindow s.meas.windows.iBatt (clampTo (-2000) 2000 iBatt),
        vBank := pushWindow s.meas.windows.vBank (clampTo 0 12000 vBank),
        vSupply := pushWindow s.meas.windows.vSupply (clampTo 0 300 vSupply) },
      nextSample := s.meas.nextSample + 100, samples := s.meas.samples + 1 } }

/-- SAMPLING_TIMER (R3): one sample of each slow channel; the bank voltage sample goes to the actuator
and energy unit. The tenth expiry's average delivery comes before the next expiry (R4). -/
def execSamplingTimer (vBatt iBatt vBank vSupply temp : Int) : State → Result :=
  whenRunning fun s =>
    if decide (s.meas.nextSample ≤ s.elapsed) && decide (s.meas.samples < 10) then
      takeBankSample (clampTo 0 12000 vBank).toNat
        (takeTemperature temp (takeSamples vBatt iBatt vBank vSupply s))
    else s

/-- The sum of a window divided by its number of samples, to the nearest unit, halves up (R4). -/
def average (w : List Int) : Int := (2 * w.sum + w.length) / (2 * w.length)

/-- The averages of one delivery (R4, R6): in FAULT the temperature carries no value unless the ten
samples of this second were all valid. -/
def averagesOf (m : Measurement) : Averages :=
  { vBatt := average m.windows.vBatt, iBatt := average m.windows.iBatt,
    vBank := average m.windows.vBank, vSupply := average m.windows.vSupply,
    temp := if m.tempBad then none else some (average m.windows.temp) }

/-- The measurement unit's share of an average delivery: the averages, the temperature channel and the
supply judgement (R4 to R6). -/
def deliverAverages (s : State) : State :=
  let a := averagesOf s.meas
  { s with meas := { s.meas with
      averages := a, delivered := true, samples := 0, tempFault := s.meas.tempBad, tempBad := false,
      supply := decide (90 ≤ a.vSupply) } }

end Sys2Proof.Machine
end

