-- ==== Sys2Proof/Machine/Battery.lean ====
section
/-! DEFINITION. The commands of the battery manager (chapter 6), with the 1 s average delivery. -/

namespace Sys2Proof.Machine

/-! ## The average delivery (R4, R99, R130) -/

/-- "started" reaches the radio controller (R159): modem power, the refill and status timers, and the
ready wait where the power state permits the modem. -/
def radioBegins (permitted : Bool) (s : State) : State :=
  { s with rad := { s.rad with
      request := true, permitted := permitted, refillTimer := some (s.elapsed + 1000),
      statusTimer :=
        if s.cfg.radio.statusPeriod = 0 then none
        else some (s.elapsed + s.cfg.radio.statusPeriod * 1000),
      readyWait := if permitted then some (s.elapsed + 5000) else none } }

/-- The start-up procedure completes (R130). -/
def completeStart (s : State) : State :=
  let s := flagRestarted s
  radioBegins (modemPermitted s.bat.power) { s with cab := { s.cab with started := true } }

/-- The power state at a delivery: the first is set from the average alone and completes the start
(R116, R130). -/
def powerAtDelivery (s : State) : State :=
  match s.bat.power with
  | none => completeStart (setPowerState (firstPowerState s.meas.averages.vBatt) s)
  | some p => judgePower p s

/-- The battery manager takes a delivery in the order of R99: the change of supply, the targets, the
charger, the power state. The test gate is judged at each change of an input (R108). -/
def takeDelivery (supplyBefore : Bool) (s : State) : State :=
  let s := if s.meas.supply = supplyBefore then s else judgeGate (supplyMoves s.meas.supply s)
  powerAtDelivery (judgeGate (judgeCharger (computeTargets s)))

/-- AVERAGE_DELIVERY (R4): the 1 s average delivery of the tenth sampling expiry. -/
def execAverageDelivery : State → Result :=
  whenRunning fun s =>
    if s.meas.samples = 10 then takeDelivery s.meas.supply (deliverAverages s) else s

/-! ## Timers -/

/-- ABSORB_TIMER_EXPIRY (R102). -/
def execAbsorbTimerExpiry : State → Result :=
  whenRunning fun s =>
    if due s.bat.absorbTimer s && decide (s.bat.charger = .absorb) then judgeGate (enterFloat s) else s

/-- The test timer is reloaded with the period in force. -/
def reloadTestTimer (s : State) : State :=
  { s with bat := { s.bat with
      testTimer := s.bat.testTimer.map fun d => d + periodMs s.cfg.battery.testPeriod } }

/-- A scheduled test takes up a new period (R107). -/
def scheduleTest (s : State) : State :=
  awaitGate .scheduled { s with bat := { s.bat with retries := 0 } }

/-- The test timer has expired: the test is taken by its state (R107). -/
def testTimerExpires (s : State) : State :=
  match s.bat.testState with
  | .idle => scheduleTest s
  | .waiting => scheduleTest (dropWaiting s)
  | .retryWait => scheduleTest s
  | .testRest => { s with bat := { s.bat with testKind := some .scheduled, retries := 0 } }
  | .loaded => { s with bat := { s.bat with testKind := some .scheduled, retries := 0 } }

/-- BATTERY_TEST_TIMER (R107). -/
def execBatteryTestTimer : State → Result :=
  whenRunning fun s => if due s.bat.testTimer s then testTimerExpires (reloadTestTimer s) else s

/-- The rest has ended: V0 is taken and the load goes on (R109). -/
def startLoad (s : State) : State :=
  { s with bat := { s.bat with
      testState := .loaded, restTimer := none, loadTimer := some (s.elapsed + 5000), loadOn := true,
      v0 := some s.meas.averages.vBatt } }

/-- REST_TIMER_EXPIRY (R109). -/
def execRestTimerExpiry : State → Result :=
  whenRunning fun s =>
    if due s.bat.restTimer s && decide (s.bat.testState = .testRest) then startLoad s else s

/-- The load time has ended: the verdict, and the charger by the supply (R110, R111). -/
def finishTest (s : State) : State :=
  let s := chargerBySupply (reportTest (loadRecord s) (endTest s))
  { s with bat := { s.bat with testState := .idle, testKind := none } }

/-- LOAD_TIMER_EXPIRY (R110). -/
def execLoadTimerExpiry : State → Result :=
  whenRunning fun s =>
    if due s.bat.loadTimer s && decide (s.bat.testState = .loaded) then finishTest s else s

/-- RETRY_TIMER_EXPIRY (R113). -/
def execRetryTimerExpiry : State → Result :=
  whenRunning fun s =>
    if due s.bat.retryTimer s && decide (s.bat.testState = .retryWait) then awaitGate .scheduled s
    else s

/-- CREW_VISIT_WINDOW_EXPIRY (R118). -/
def execCrewVisitWindowExpiry : State → Result :=
  whenRunning fun s =>
    if due s.bat.window s then setCabinetSwitch { s with bat := { s.bat with window := none } } else s

/-! ## Notices -/

/-- A notice of the sequence controller: the report of protection at rest, and a departure (R108,
R112). -/
def takeRestNotice (n : RestNotice) (s : State) : State :=
  let s :=
    match n.change with
    | some b => judgeGate { s with bat := { s.bat with atRest := b } }
    | none => s
  if n.departure then abortTest .departure s else s

/-- BATTERY_REST_NOTICE (R108): the oldest notice of the sequence controller. -/
def execBatteryRestNotice : State → Result :=
  whenRunning fun s =>
    match s.mail.rest with
    | [] => s
    | n :: rest => takeRestNotice n { s with mail := { s.mail with rest := rest } }

/-- BANK_FULL_NOTICE (R108): the oldest "bank full" or "bank not full". -/
def execBankFullNotice : State → Result :=
  whenRunning fun s =>
    match s.mail.bank with
    | [] => s
    | b :: rest =>
      judgeGate { s with mail := { s.mail with bank := rest }, bat := { s.bat with bankFull := b } }

/-! ## Requests (R114) -/

/-- The owner's handling of BATTERY_TEST_START (R114). -/
def serveTestStart (id : Nat) (s : State) : State :=
  match s.bat.testState with
  | .idle => answerCode id .accepted (awaitGate .requested s)
  | .retryWait => answerCode id .accepted (awaitGate .requested s)
  | .waiting => answerCode id .accepted s
  | .testRest => answerCode id .refusedState s
  | .loaded => answerCode id .refusedState s

/-- BATTERY_TEST_START (R114). -/
def execBatteryTestStart (tag : Byte) : State → Result :=
  whenRunning (request 20#8 tag serveTestStart)

/-- The owner's handling of BATTERY_RESULT_GET (R114). -/
def serveResultGet (id : Nat) (s : State) : State :=
  answer id .ok
    (.battery s.bat.lastTest s.bat.testState s.bat.testKind s.bat.retries
      (timeLeft s.bat.testTimer s) (timeLeft s.bat.retryTimer s)) s

/-- BATTERY_RESULT_GET (R114). -/
def execBatteryResultGet (tag : Byte) : State → Result :=
  whenRunning (request 21#8 tag serveResultGet)

/-- The test's working state is reset (R114). -/
def restartTest (s : State) : State :=
  let s := abortTest .restart s
  let s := if s.bat.testState = .waiting then dropWaiting s else s
  { s with bat := { s.bat with
      testState := .idle, testKind := none, retries := 0, retryTimer := none,
      testTimer :=
        if s.cfg.battery.testPeriod = 0 then none
        else some (s.elapsed + periodMs s.cfg.battery.testPeriod) } }

/-- The owner's handling of BLOCK_RESTART naming BATTERY_TEST (R114). -/
def serveRestartTest (id : Nat) (s : State) : State := answerCode id .ok (restartTest s)

/-- BLOCK_RESTART_BATTERY_TEST (R114). -/
def execBlockRestartBatteryTest (tag : Byte) : State → Result :=
  whenRunning (request 26#8 tag serveRestartTest)

end Sys2Proof.Machine
end

