-- ==== Sys2Proof/Machine/CaptureUnit.lean ====
section
/-! DEFINITION. The capture unit (chapter 10). -/

namespace Sys2Proof.Machine

/-- A segment that holds nothing. R166 clears the capture fields of a segment released to FREE and says
nothing of recorded and of its sets: DESIGN CHOICE (log entry 81), recorded is 0 and the sets are gone, as in
the FREE segments of a start (R161). -/
def freeSegment : Segment := { state := .free, recorded := 0, ring := [], first := 0, capture := none }

/-- A segment that has just become RECORDING, when the last set to reach the unit is `lastSet`. -/
def recordingSegment (lastSet : Nat) : Segment :=
  { state := .recording, recorded := 0, ring := [], first := lastSet + 1, capture := none }

/-- The segment is RECORDING or in POST. -/
def Segment.active (g : Segment) : Bool :=
  match g.state with
  | .recording => true
  | .post => true
  | .free => false
  | .frozen => false

/-- The cleared memory in a layout of so many segments (R161, R167): segment 0 is RECORDING. -/
def segmentLayout (count lastSet : Nat) : List Segment :=
  match count with
  | 0 => []
  | n + 1 => recordingSegment lastSet :: List.replicate n freeSegment

/-- Every segment is cleared into a layout of so many segments; the next capture id is kept (R167,
R168). -/
def clearCaptures (count : Nat) (s : State) : State :=
  { s with cap := { s.cap with segments := segmentLayout count s.cap.lastSet, cursor := none } }

/-- The segment size in sample sets (section 10.1). -/
def segmentSize (c : Capture) : Nat := 512 / c.segments.length

/-- A set written at the next place of a ring, over the oldest once it is full (R162). -/
def pushRing (size : Nat) (ring : List MeasSet) (m : MeasSet) : List MeasSet :=
  (ring ++ [m]).drop (ring.length + 1 - size)

/-- The first FREE segment becomes RECORDING. -/
def startFree (lastSet : Nat) : List Segment → List Segment
  | [] => []
  | g :: gs =>
    if g.state = .free then recordingSegment lastSet :: gs else g :: startFree lastSet gs

/-- A segment takes a set (R162): the segment after it, and whether it froze. The set that freezes it is
written even where the trigger came so late that the ring then loses its oldest held set: DESIGN CHOICE
(log entry 66). -/
def Segment.write (size : Nat) (m : MeasSet) (g : Segment) : Segment × Bool :=
  let g' := { g with ring := pushRing size g.ring m, recorded := min size (g.recorded + 1) }
  match g.state with
  | .free => (g, false)
  | .frozen => (g, false)
  | .recording => (g', false)
  | .post =>
    match g.capture with
    | none => (g', false)
    | some c =>
      if c.trigger < m.index then
        let written := min c.postCount (c.postWritten + 1)
        let g'' := { g' with capture := some { c with postWritten := written } }
        if written = c.postCount then ({ g'' with state := .frozen }, true) else (g'', false)
      else (g', false)

/-- A set reaches the capture unit (R162). -/
def writeSet (m : MeasSet) (s : State) : State :=
  let size := segmentSize s.cap
  let froze := s.cap.segments.any fun g => (g.write size m).2
  let segments := s.cap.segments.map fun g => (g.write size m).1
  if froze then
    flagCaptureReady { s with cap := { s.cap with
      segments := startFree m.index segments, lastSet := m.index } }
  else { s with cap := { s.cap with segments := segments, lastSet := m.index } }

/-- CAPTURE_SET_WRITE (R162): the oldest set handed to the unit. -/
def execCaptureSetWrite : State → Result :=
  whenRunning fun s =>
    match s.mail.capSets with
    | [] => s
    | m :: rest => writeSet m { s with mail := { s.mail with capSets := rest } }

/-! ## Triggers (R163) -/

/-- The ids that segments hold. -/
def heldIds (l : List Segment) : List Nat := l.filterMap fun g => g.capture.map CaptureFields.id

/-- The next capture id that no segment holds (R163). -/
def nextFreeId (held : List Nat) : Nat → Nat → Nat
  | 0, n => n
  | fuel + 1, n => if n ∈ held then nextFreeId held fuel ((n + 1) % 65536) else n

/-- The ring can hold the trigger set: the set reached the unit after the segment became RECORDING, or
has not reached it yet, and has not been overwritten (R163; log entry 11). -/
def Segment.canHold (lastSet trigger : Nat) (g : Segment) : Bool :=
  decide (g.first ≤ trigger) && decide (lastSet < trigger + g.ring.length + 1)
    && (decide (lastSet < trigger) || decide (lastSet < trigger + g.ring.length))

/-- The capture fields at a trigger (R163). Pre held counts the sets up to the trigger set that are still to
come, which an empty ring will then hold: DEDUCED (log entry 67, R166). -/
def triggerFields (s : State) (trigger : Nat) (g : Segment) : CaptureFields :=
  { id := s.cap.nextId, trigger := trigger, time := s.clock,
    preHeld := min s.cfg.capture.pre (g.ring.length + trigger - s.cap.lastSet),
    postCount := s.cfg.capture.post,
    postWritten := min s.cfg.capture.post (s.cap.lastSet - trigger) }

/-- A RECORDING segment enters POST; other segments are kept. -/
def Segment.enterPost (f : CaptureFields) (g : Segment) : Segment :=
  if g.state = .recording then { g with state := .post, capture := some f } else g

/-- A trigger that names this set, answered on the same event (R163). -/
def triggerCapture (trigger : Nat) (s : State) : CaptureAnswer × State :=
  match s.cap.segments.find? Segment.active with
  | none => (.missed, s)
  | some g =>
    match g.capture with
    | some c => (.id c.id, s)
    | none =>
      if g.canHold s.cap.lastSet trigger then
        let segments := s.cap.segments.map (Segment.enterPost (triggerFields s trigger g))
        (.id s.cap.nextId,
          { s with cap := { s.cap with
              segments := segments,
              nextId := nextFreeId (heldIds segments) 5 ((s.cap.nextId + 1) % 65536) } })
      else (.missed, s)

/-! ## Reading and releasing (R164 to R166, R168) -/

/-- A FROZEN segment with this capture id. -/
def Segment.holds (id : Nat) (g : Segment) : Bool :=
  decide (g.state = .frozen) && decide (g.capture.map CaptureFields.id = some id)

/-- The length of a capture. -/
def CaptureFields.length (c : CaptureFields) : Nat := c.preHeld + c.postCount

/-- The sets of a capture in order: those up to the trigger set that it holds, and those after it. -/
def captureSets (c : CaptureFields) (g : Segment) : List MeasSet :=
  g.ring.filter fun m =>
    decide (c.trigger < m.index + c.preHeld) && decide (m.index ≤ c.trigger + c.postCount)

/-- A read of the capture with this id from this index (R165). -/
def readCapture (request id index : Nat) (s : State) : State :=
  match s.cap.segments.find? (Segment.holds id) with
  | none => answerCode request .notFrozen s
  | some g =>
    match g.capture with
    | none => answerCode request .notFrozen s
    | some c =>
      if c.length < index then answerCode request .badIndex s
      else if index = c.length then answer request .ok (.samples id index [] 0 true) s
      else
        let sets := ((captureSets c g).drop index).take 24
        answer request .ok (.samples id index sets (c.length - index - sets.length) false)
          { s with cap := { s.cap with cursor := some (id, index + sets.length) } }

/-- The owner's handling of CAPTURE_READ (R165). -/
def serveCaptureRead (id index : Half) (r : Nat) (s : State) : State :=
  readCapture r id.toNat index.toNat s

/-- CAPTURE_READ (R165). -/
def execCaptureRead (tag : Byte) (id index : Half) : State → Result :=
  whenRunning (request 23#8 tag (serveCaptureRead id index))

/-- The owner's handling of CAPTURE_READ_NEXT (R165). -/
def serveCaptureReadNext (r : Nat) (s : State) : State :=
  match s.cap.cursor with
  | none => answerCode r .notFrozen s
  | some (id, index) => readCapture r id index s

/-- CAPTURE_READ_NEXT (R165). -/
def execCaptureReadNext (tag : Byte) : State → Result :=
  whenRunning (request 24#8 tag serveCaptureReadNext)

/-- The line of a FROZEN segment in a capture list (R164). -/
def captureLine (n : Nat) (g : Segment) : Option CaptureLine :=
  match g.state, g.capture with
  | .frozen, some c =>
    some { segment := n, id := c.id, time := c.time, preHeld := c.preHeld, postCount := c.postCount,
           length := c.length }
  | _, _ => none

/-- The lines of a capture list, in segment order. -/
def captureLines : Nat → List Segment → List CaptureLine
  | _, [] => []
  | n, g :: gs => (captureLine n g).toList ++ captureLines (n + 1) gs

/-- The number and state of the segment RECORDING or in POST, or none. -/
def activeSegment : Nat → List Segment → Option (Nat × SegmentState)
  | _, [] => none
  | n, g :: gs => if g.active then some (n, g.state) else activeSegment (n + 1) gs

/-- The owner's handling of CAPTURE_LIST (R164). -/
def serveCaptureList (r : Nat) (s : State) : State :=
  answer r .ok
    (.captures s.cap.segments.length (activeSegment 0 s.cap.segments) (captureLines 0 s.cap.segments)) s

/-- CAPTURE_LIST (R164). -/
def execCaptureList (tag : Byte) : State → Result :=
  whenRunning (request 22#8 tag serveCaptureList)

/-- The segment that holds an id is replaced. -/
def replaceHolder (id : Nat) (new : Segment) : List Segment → List Segment
  | [] => []
  | g :: gs => if g.holds id then new :: gs else g :: replaceHolder id new gs

/-- The segments after a release: the released one is FREE, or records when none does (R166). -/
def releaseSegments (id : Nat) (c : Capture) : List Segment :=
  replaceHolder id
    (if c.segments.any Segment.active then freeSegment else recordingSegment c.lastSet) c.segments

/-- The read cursor is absent once the id it holds is released (R166). -/
def releaseCursor (id : Nat) : Option (Nat × Nat) → Option (Nat × Nat)
  | none => none
  | some (i, n) => if i = id then none else some (i, n)

/-- The owner's handling of CAPTURE_RELEASE (R166). -/
def serveCaptureRelease (id : Half) (r : Nat) (s : State) : State :=
  if s.cap.segments.any (Segment.holds id.toNat) then
    answerCode r .ok
      { s with cap := { s.cap with
          segments := releaseSegments id.toNat s.cap, cursor := releaseCursor id.toNat s.cap.cursor } }
  else answerCode r .notFrozen s

/-- CAPTURE_RELEASE (R166). -/
def execCaptureRelease (tag : Byte) (id : Half) : State → Result :=
  whenRunning (request 25#8 tag (serveCaptureRelease id))

/-- The owner's handling of BLOCK_RESTART naming CAPTURE (R168). -/
def serveRestartCapture (r : Nat) (s : State) : State :=
  answerCode r .ok (clearCaptures s.cap.segments.length s)

/-- BLOCK_RESTART_CAPTURE (R168). -/
def execBlockRestartCapture (tag : Byte) : State → Result :=
  whenRunning (request 26#8 tag serveRestartCapture)

end Sys2Proof.Machine
end

