-- ==== Sys2Proof/Machine/Overcurrent.lean ====
section
/-! DEFINITION. The overcurrent unit (chapter 2): the arithmetic of one element on one measurement set,
the hot-line parts, and the evaluation result. -/

namespace Sys2Proof.Machine

/-! ## Arithmetic (R24, R26 to R28) -/

/-- The multiple of a magnitude in sixteenths of the pickup, held at 640 (R24). -/
def multipleOf (i pickup : Nat) : Nat := min 640 (16 * i / pickup)

/-- The drop-out level of a pickup (R25). -/
def dropOutLevel (pickup : Nat) : Nat := pickup * 95 / 100

/-- The straight line between two points of a curve, an exact half going to the larger time (R26). -/
def interpolate (lo hi : CurvePoint) (m16 : Nat) : Nat :=
  let n := (m16 - lo.m16) * (lo.t - hi.t)
  let d := hi.m16 - lo.m16
  if d < 2 * (n % d) then lo.t - n / d - 1 else lo.t - n / d

/-- The curve time beyond a point of the curve, given the points after it (R26). -/
def curveTimeAfter (p : CurvePoint) (m16 : Nat) : List CurvePoint → Nat
  | [] => p.t
  | q :: qs => if m16 < q.m16 then interpolate p q m16 else curveTimeAfter q m16 qs

/-- The curve time of a multiple: flat up to the first point and beyond the last (R26). -/
def curveTime (m16 : Nat) : Curve → Nat
  | [] => 0
  | p :: ps => if m16 ≤ p.m16 then p.t else curveTimeAfter p m16 ps

/-- The curve an element times on: the factory table of curve 1 stands in for an empty one (R18). -/
def timingCurve (cfg : InForce) (id : Nat) : Curve :=
  match (cfg.curves[id]?).getD [] with
  | [] => factoryCurve1
  | p :: ps => p :: ps

/-- A time held within 10 to 600,000 ms. -/
def holdTime (t : Nat) : Nat := max 10 (min 600000 t)

/-- The effective operate time: scaled by TM with halves up, the adder added, held (R27). -/
def effectiveTime (t : Nat) (o : OpSettings) : Nat := holdTime ((t * o.tm + 50) / 100 + o.adder)

/-- The progress of one set in millionths (R28). -/
def progressStep (teff : Nat) : Nat := 2000000 / teff

/-- The number of consecutive sets INST asks for (R30). -/
def instRequired (delay : Nat) : Nat := max 1 (ceilDiv delay 2)

/-- Full progress (R28). -/
def fullProgress : Nat := 1000000

/-! ## One element on one set (R25, R28 to R31) -/

/-- What one element did on a set. -/
structure ElementStep where
  el : Element
  pickup : Bool
  /-- a drop-out: HELD or not, and the count of sets picked up -/
  drop : Option (Bool × Nat)
  /-- an operation: by INST or not -/
  operate : Option Bool

/-- An element that is held (R21). -/
def holdElement (el : Element) : ElementStep :=
  { el := idleElement, pickup := false,
    drop := if el.state = .pickedUp then some (true, el.sets) else none, operate := none }

/-- The reset of an IDLE element (R29). -/
def resetProgress (prot : Protection) (progress : Nat) : Nat :=
  match prot.resetMode with
  | .instant => 0
  | .decay => progress - 2000000 / prot.resetTime

/-- What an element times against on a set: its multiple, and its operation's settings and curve. -/
structure Timing where
  m16 : Nat
  op : OpSettings
  curve : Curve

/-- The INST count after a set (R30). -/
def instCountAfter (t : Timing) (count : Nat) : Nat :=
  if t.op.instOn && decide (t.op.instMult ≤ t.m16) then count + 1 else 0

/-- The accumulator after a set's advance, before the operation is judged (R26, R28). -/
def progressAfter (t : Timing) (progress : Nat) : Nat :=
  if 16 ≤ t.m16 then progress + progressStep (effectiveTime (curveTime t.m16 t.curve) t.op)
  else progress

/-- An element that has operated (R31). -/
def operatedElement (sets : Nat) : Element :=
  { state := .operated, progress := 0, instCount := 0, sets := sets }

/-- The timing and INST check of a PICKED_UP element whose count of sets has been settled (R28, R30):
INST names the operation when both reach it on one set. -/
def timeElement (t : Timing) (el : Element) (pickup : Bool) : ElementStep :=
  let progress := progressAfter t el.progress
  let count := instCountAfter t el.instCount
  let inst := t.op.instOn && decide (t.op.instMult ≤ t.m16) && decide (instRequired t.op.instDelay ≤ count)
  if inst then
    { el := operatedElement el.sets, pickup := pickup, drop := none, operate := some true }
  else if fullProgress ≤ progress then
    { el := operatedElement el.sets, pickup := pickup, drop := none, operate := some false }
  else
    { el := { el with progress := progress, instCount := count }, pickup := pickup, drop := none,
      operate := none }

/-- An evaluated phase or ground element on a set (R25, R29, R31). -/
def evaluateElement (prot : Protection) (t : Timing) (i pickup : Nat) (el : Element) : ElementStep :=
  match el.state with
  | .idle =>
    if pickup ≤ i then timeElement t { el with state := .pickedUp, sets := 1 } true
    else
      { el := { el with progress := resetProgress prot el.progress, instCount := 0 }, pickup := false,
        drop := none, operate := none }
  | .pickedUp =>
    if dropOutLevel pickup ≤ i then
      timeElement t { el with sets := min 65535 (el.sets + 1) } false
    else
      { el := { state := .idle, progress := resetProgress prot el.progress, instCount := 0, sets := 0 },
        pickup := false, drop := some (false, el.sets), operate := none }
  | .operated => { el := el, pickup := false, drop := none, operate := none }

/-- A hot-line part on a set: its state after, and whether it operated (R32). -/
def hotPart (evaluated : Bool) (m16 : Nat) (st : ElementState) : ElementState × Bool :=
  if evaluated then
    match st with
    | .operated => (.operated, false)
    | .idle => if 16 ≤ m16 then (.operated, true) else (.idle, false)
    | .pickedUp => if 16 ≤ m16 then (.operated, true) else (.idle, false)
  else (.idle, false)

/-! ## Which elements are evaluated (R21 to R23) -/

/-- The sequence holds the pole closed: REST, TIMING or RECLAIM (R21). -/
def SeqState.holdsClosed : SeqState → Bool
  | .rest => true
  | .timing => true
  | .reclaim => true
  | .tripping => false
  | .deadTime => false
  | .closeWait => false
  | .closing => false
  | .lockout => false

/-- DEAD_TIME, CLOSE_WAIT or CLOSING, which hold the ground element in SINGLE mode (R22). -/
def SeqState.betweenStrokes : SeqState → Bool
  | .deadTime => true
  | .closeWait => true
  | .closing => true
  | .rest => false
  | .timing => false
  | .tripping => false
  | .reclaim => false
  | .lockout => false

/-- The poles whose records are in REST, TIMING or RECLAIM. -/
def closedPoles (q : Sequence) : PoleSet := q.recs.map fun r => r.state.holdsClosed

/-- The ground element is evaluated (R22). -/
def groundEvaluated (mode : TripMode) (q : Sequence) : Bool :=
  !(closedPoles q).isEmpty
    && (decide (mode = .ganged) || (q.recs.map fun r => r.state.betweenStrokes).isEmpty)

/-- The settings of an operation; a number above 4 uses those of operation 4 (R23). -/
def opSettings (p : Protection) (op : Nat) : OpSettings :=
  match op with
  | 0 => p.op1
  | 1 => p.op1
  | 2 => p.op2
  | 3 => p.op3
  | _ => p.op4

/-- The operation number of a phase element or hot-line part (R23). -/
def phaseOp (q : Sequence) (p : Pole) : Nat := (q.recs.get p).shot + 1

/-- The operation number of the ground element: one above the highest shot count among the records in
REST, TIMING or RECLAIM, which in GANGED mode is the common one (R22). -/
def groundOp (q : Sequence) : Nat :=
  ((closedPoles q).poles.map fun p => (q.recs.get p).shot).foldl max 0 + 1

/-- What a phase element times against. -/
def phaseTiming (cfg : InForce) (op i : Nat) : Timing :=
  { m16 := multipleOf i cfg.prot.ip, op := opSettings cfg.prot op,
    curve := timingCurve cfg (opSettings cfg.prot op).phaseCurve }

/-- What the ground element times against. -/
def groundTiming (cfg : InForce) (op i : Nat) : Timing :=
  { m16 := multipleOf i cfg.prot.gp, op := opSettings cfg.prot op,
    curve := timingCurve cfg (opSettings cfg.prot op).groundCurve }

/-- A phase element on a set. -/
def phaseStep (s : State) (m : MeasSet) (p : Pole) : ElementStep :=
  if (closedPoles s.seq).get p then
    evaluateElement s.cfg.prot (phaseTiming s.cfg (phaseOp s.seq p) (m.mag.get p)) (m.mag.get p)
      s.cfg.prot.ip (s.oc.phase.get p)
  else holdElement (s.oc.phase.get p)

/-- The ground element on a set. -/
def groundStep (s : State) (m : MeasSet) : ElementStep :=
  if groundEvaluated s.cfg.prot.tripMode s.seq then
    evaluateElement s.cfg.prot (groundTiming s.cfg (groundOp s.seq) m.mag.g) m.mag.g s.cfg.prot.gp
      s.oc.ground
  else holdElement s.oc.ground

/-- A hot-line part on a set. -/
def hotStep (s : State) (m : MeasSet) (p : Pole) : ElementState × Bool :=
  hotPart (s.oc.armed && (closedPoles s.seq).get p)
    (multipleOf (m.mag.get p) s.cfg.prot.hotPickup) (s.oc.hot.get p)

/-! ## The evaluation result (R33, R34) -/

/-- The pole set a phase operation calls to trip (R34). -/
def phaseTripSet (mode : TripMode) (p : Pole) : PoleSet :=
  match mode with
  | .single => Tri.single p
  | .ganged => Tri.full

/-- The entries of one element: PICKUP, DROP_OUT, OPERATE. -/
def stepReports (e : ElementId) (poles : PoleSet) (op : Nat) (toc inst : OperateName) (trip : PoleSet)
    (x : ElementStep) : List Report :=
  (if x.pickup then [.pickup e poles op] else [])
    ++ (match x.drop with | some (held, sets) => [.dropOut e poles held sets] | none => [])
    ++ (match x.operate with
        | some byInst => [.operate e poles op (if byInst then inst else toc) trip]
        | none => [])

/-- The entries of a phase element. -/
def phaseReports (s : State) (p : Pole) (x : ElementStep) : List Report :=
  stepReports (.phase p) (Tri.single p) (phaseOp s.seq p) .phaseToc .phaseInst
    (phaseTripSet s.cfg.prot.tripMode p) x

/-- The entries of the ground element. -/
def groundReports (s : State) (x : ElementStep) : List Report :=
  stepReports .ground (closedPoles s.seq) (groundOp s.seq) .groundToc .groundInst Tri.full x

/-- The entries of a hot-line part. -/
def hotReports (s : State) (p : Pole) (operated : Bool) : List Report :=
  if operated then
    [.pickup (.hot p) (Tri.single p) (phaseOp s.seq p),
      .operate (.hot p) (Tri.single p) (phaseOp s.seq p) .hotLine Tri.full]
  else []

/-- The rank of an operate name in the order of R34. -/
def OperateName.rank : OperateName → Nat
  | .hotLine => 1
  | .phaseInst => 2
  | .groundInst => 3
  | .phaseToc => 4
  | .groundToc => 5

/-- The name and operation number of an OPERATE entry. -/
def Report.operation : Report → Option (OperateName × Nat)
  | .operate _ _ op name _ => some (name, op)
  | .pickup .. => none
  | .dropOut .. => none

/-- The leading OPERATE entry: the first in the order of names; among equals the first in pole order,
which is the order of the entries (R34). -/
def leadingOperation (entries : List Report) : Option (OperateName × Nat) :=
  (entries.filterMap Report.operation).foldl
    (fun best x =>
      match best with
      | none => some x
      | some b => if x.1.rank < b.1.rank then some x else some b)
    none

/-- Every entry of a set, in the order phase A, B, C, ground, hot-line A, B, C (log entry 10). -/
def setReports (s : State) (m : MeasSet) : List Report :=
  allPoles.flatMap (fun p => phaseReports s p (phaseStep s m p))
    ++ groundReports s (groundStep s m)
    ++ allPoles.flatMap (fun p => hotReports s p (hotStep s m p).2)

/-- The unit after a set. -/
def overcurrentAfter (s : State) (m : MeasSet) : Overcurrent :=
  { phase := Tri.of fun p => (phaseStep s m p).el, ground := (groundStep s m).el,
    hot := Tri.of fun p => (hotStep s m p).1, armed := s.oc.armed }

/-- The evaluation of a set; a set on which no element reported gives no result (R33). -/
def evaluateSet (m : MeasSet) (s : State) : State :=
  let entries := setReports s m
  let result : EvalResult := { set := m, entries := entries, leading := leadingOperation entries }
  { s with
    oc := overcurrentAfter s m,
    mail := { s.mail with
      results := if entries.isEmpty then s.mail.results else s.mail.results ++ [result] } }

/-- OVERCURRENT_EVALUATION (R21): the oldest set handed to the unit; a set taken before the sequence
records exist is not evaluated. -/
def execOvercurrentEvaluation : State → Result :=
  whenRunning fun s =>
    match s.mail.ocSets with
    | [] => s
    | m :: rest =>
      let s := { s with mail := { s.mail with ocSets := rest } }
      if s.seq.created then evaluateSet m s else s

/-- HOT_LINE_ARMING (R32): "armed" or "disarmed" reaches the unit; disarmed, every part is IDLE. -/
def execHotLineArming : State → Result :=
  whenRunning fun s =>
    match s.mail.arming with
    | [] => s
    | armed :: rest =>
      { s with
        oc := { s.oc with armed := armed, hot := if armed then s.oc.hot else Tri.all .idle },
        mail := { s.mail with arming := rest } }

/-- At the apply of a PROTECTION or CURVE block every accumulator and count is cleared (R20). -/
def Element.cleared (e : Element) : Element := { e with progress := 0, instCount := 0, sets := 0 }

/-- R20 for the whole unit. -/
def clearElements (s : State) : State :=
  { s with oc := { s.oc with
      phase := s.oc.phase.map Element.cleared, ground := s.oc.ground.cleared } }

end Sys2Proof.Machine
end

