-- ==== Sys2Proof/Machine/SequenceOps.lean ====
section
/-! DEFINITION. The shared operations of the sequence controller (chapter 3): posting requests, entering
LOCKOUT and its spreading, protection at rest, the judgement of a trip, the trip mode, and the commanded
trip and close. -/

namespace Sys2Proof.Machine

/-! ## Records and requests -/

/-- The records of some poles are changed. -/
def mapRecs (ps : PoleSet) (f : SeqRecord → SeqRecord) (s : State) : State :=
  { s with seq := { s.seq with
      recs := Tri.of fun p => if ps.get p then f (s.seq.recs.get p) else s.seq.recs.get p } }

/-- The poles whose records meet a condition. -/
def polesWhere (s : State) (f : SeqRecord → Bool) : PoleSet := s.seq.recs.map f

/-- The poles whose records are in LOCKOUT. -/
def lockedPoles (s : State) : PoleSet := polesWhere s fun r => decide (r.state = .lockout)

/-- In GANGED trip mode a set is widened to all three poles (R50). -/
def widen (s : State) (ps : PoleSet) : PoleSet :=
  match s.cfg.prot.tripMode with
  | .ganged => Tri.full
  | .single => ps

/-- A message goes to the actuator and energy unit. -/
def post (m : EnergyMsg) (s : State) : State :=
  { s with mail := { s.mail with requests := s.mail.requests ++ [m] } }

/-- A trip request for some poles; for none there is no request. -/
def postTrip (ps : PoleSet) (o : StrokeOrigin) (s : State) : State :=
  if ps.isEmpty then s else post (.trip ps o) s

/-- The trip request of an OPERATE, which the records of its poles join with a trip in hand (R43). -/
def postOperate (ps : PoleSet) (s : State) : State :=
  if ps.isEmpty then s else post (.trip ps .protection ps) s

/-- A close request for some poles. -/
def postClose (ps : PoleSet) (o : StrokeOrigin) (s : State) : State :=
  if ps.isEmpty then s else post (.close ps o) s

/-- A withdrawal of waiting requests (R66). -/
def withdraw (k : StrokeKind) (ps : PoleSet) (s : State) : State :=
  if ps.isEmpty then s else post (.withdraw k ps) s

/-- The poles that show CLOSED to the sequence controller. -/
def shownClosed (s : State) : PoleSet := showing s.seq.view .closed

/-- The stroke origin of a command. -/
def CmdSource.origin : CmdSource → StrokeOrigin
  | .cabinet => .commandCabinet
  | .radio => .commandRadio

/-- The close origin of a command. -/
def CmdSource.closeOrigin : CmdSource → CloseOrigin
  | .cabinet => .commandCabinet
  | .radio => .commandRadio

/-- A timer of a record is due. -/
def SeqRecord.timerDue (kind : SeqTimerKind) (now : Nat) (r : SeqRecord) : Bool :=
  match r.timer with
  | some t => decide (t.kind = kind) && decide (t.deadline ≤ now)
  | none => false

/-- A list without repeats, first occurrences kept. -/
def firsts {α : Type} [DecidableEq α] : List α → List α
  | [] => []
  | x :: xs => x :: (firsts xs).filter fun y => decide (y ≠ x)

/-! ## Closing blocks (R36) -/

/-- A closing block is in force. -/
def closingBlock (t : TagSummary) : Bool :=
  t.kinds.hotLine || t.kinds.doNotClose || t.kinds.remoteBlock || t.kinds.systemHold || t.hold

/-- The operations to lockout in force: 1 under a closing block, otherwise the setting. -/
def lockOpsInForce (s : State) : Nat :=
  if closingBlock s.seq.summary then 1 else s.cfg.prot.opsToLockout

/-- Every record takes the operations to lockout in force (R36). -/
def applyLockOps (s : State) : State :=
  mapRecs Tri.full (fun r => { r with lockOps := lockOpsInForce s }) s

/-! ## Protection at rest (R38) -/

/-- No element is up. -/
def ElementSet.isEmpty (e : ElementSet) : Bool := e.phase.isEmpty && !e.ground && e.hot.isEmpty

/-- Protection is at rest. -/
def protectionAtRest (q : Sequence) : Bool :=
  allPoles.all fun p => (q.recs.get p).state.resting && (q.recs.get p).up.isEmpty

/-- A record has left REST or LOCKOUT on the event (R38). DESIGN CHOICE (log entry 68): the record is judged
by its states before and after the event, so one that an event takes through TRIPPING into LOCKOUT makes
no departure. -/
def departed (before after : Sequence) : Bool :=
  allPoles.any fun p => (before.recs.get p).state.resting && !(after.recs.get p).state.resting

/-- The report of an event (R38): a departure and a change of protection at rest go to the battery
manager, the change to the stager as well. Nothing is judged before the records have been set. -/
def reportRest (departure : Bool) (s : State) : State :=
  let now := protectionAtRest s.seq
  let changed := s.seq.created && now != s.seq.saidAtRest
  let change := if changed then some now else none
  let s :=
    if changed then
      { s with
        seq := { s.seq with saidAtRest := now },
        mail := { s.mail with stageRest := s.mail.stageRest ++ [now] } }
    else s
  if changed || (s.seq.created && departure) then
    { s with mail := { s.mail with
        rest := s.mail.rest ++ [{ departure := departure, change := change }] } }
  else s

/-- An event of the sequence controller, with the report it calls for. -/
def seqEvent (f : State → State) (s : State) : State :=
  reportRest (departed s.seq (f s).seq) (f s)

/-! ## LOCKOUT (R37, R51) -/

/-- An entry to LOCKOUT: its cause, and the source of the command for cause COMMAND. -/
structure LockEntry where
  cause : LockoutCause
  source : Option CmdSource
  deriving DecidableEq, Repr

/-- The entry with a cause that has no source. -/
def lockCause (c : LockoutCause) : LockEntry := { cause := c, source := none }

/-- A record enters LOCKOUT (R37). -/
def SeqRecord.lock (e : LockEntry) (r : SeqRecord) : SeqRecord :=
  { r with
    state := .lockout, timer := none, cause := some e.cause, up := noElements, origin := none,
    closeOrigin := if e.cause = .noEnergy then r.closeOrigin else none, tripAfter := none }

/-- The LOCKOUT event shared by the records of some poles (R37). Where their last operating elements
differ, or the sources of their commands, the one given is a free choice (log entry 12). -/
def raiseLockout (c : LockoutCause) (sources : List CmdSource) (ps : PoleSet) (s : State) : State :=
  let recs := ps.poles.map fun p => s.seq.recs.get p
  let shot := (recs.map SeqRecord.shot).foldl max 0
  let last := agreed (recs.filterMap SeqRecord.lastOp) s
  let source := agreed sources last.2
  raise .sequence (.lockout ps c shot last.1 source.1) source.2

/-- The poles of a set whose records enter LOCKOUT with one cause. -/
def enteringWith (want : Tri (Option LockEntry)) (ps : PoleSet) (c : LockoutCause) : PoleSet :=
  Tri.of fun p => ps.get p && decide ((want.get p).map LockEntry.cause = some c)

/-- The LOCKOUT events of an entry, one for each cause (R37). R37 states no order among events of different
causes: DESIGN CHOICE (log entry 83), they are raised in the order of the first pole of each cause. -/
def raiseLockouts (want : Tri (Option LockEntry)) (ps : PoleSet) : List LockoutCause → State → State
  | [], s => s
  | c :: cs, s =>
    let sharing := enteringWith want ps c
    let sources := sharing.poles.filterMap fun p => (want.get p).bind LockEntry.source
    raiseLockouts want ps cs (raiseLockout c sources sharing s)

/-- Records enter LOCKOUT, each with the entry wanted for it; a record already in LOCKOUT keeps its
own. A record that was in CLOSE_WAIT has its waiting close withdrawn (R37). -/
def lockRecords (want : Tri (Option LockEntry)) (s : State) : State :=
  let ps : PoleSet := Tri.of fun p => (want.get p).isSome && !(lockedPoles s).get p
  let waiting := ps.inter (polesWhere s fun r => decide (r.state = .closeWait))
  let locked := { s with seq := { s.seq with
    recs := Tri.of fun p =>
      match want.get p with
      | some e => if ps.get p then (s.seq.recs.get p).lock e else s.seq.recs.get p
      | none => s.seq.recs.get p } }
  raiseLockouts want ps (firsts (ps.poles.filterMap fun p => (want.get p).map LockEntry.cause))
    (withdraw .close waiting locked)

/-- The mark R51 sets on a record it takes from CLOSING. -/
def markThreePole (r : SeqRecord) : SeqRecord := { r with tripAfter := some .threePole }

/-- Three-pole lockout spreads to every record not in LOCKOUT, each by the path its state allows
(R51). -/
def spreadThreePole (s : State) : State :=
  let others : PoleSet := (lockedPoles s).map not
  let closed := others.inter (polesWhere s fun r => r.state.holdsClosed)
  let closing := others.inter (polesWhere s fun r => decide (r.state = .closing))
  postTrip closed .threePole
    (mapRecs closing markThreePole
      (lockRecords (others.map fun o => if o then some (lockCause .threePole) else none) s))

/-- Records enter LOCKOUT, and in SINGLE mode the lockout spreads when one has entered (R37, R51). -/
def enterLockout (want : Tri (Option LockEntry)) (s : State) : State :=
  let s' := lockRecords want s
  match s.cfg.prot.tripMode with
  | .ganged => s'
  | .single => if (lockedPoles s').within (lockedPoles s) then s' else spreadThreePole s'

/-- The records of some poles enter LOCKOUT with one cause. -/
def lockPoles (e : LockEntry) (ps : PoleSet) (s : State) : State :=
  enterLockout (ps.map fun x => if x then some e else none) s

/-- An outcome that R50 gives to all three records in GANGED mode: every pole that still shows CLOSED
then gets a THREE_POLE trip. In SINGLE mode it is the lockout of the poles concerned. -/
def lockTogether (c : LockoutCause) (ps : PoleSet) (s : State) : State :=
  match s.cfg.prot.tripMode with
  | .single => lockPoles (lockCause c) ps s
  | .ganged =>
    if Tri.full.within (lockedPoles s) then s
    else postTrip (shownClosed s) .threePole (lockPoles (lockCause c) Tri.full s)

/-! ## Strokes seen from the sequence controller (R58, R59) -/

/-- The poles of a result of this kind, handed and not yet taken, that reached the target. -/
def resultReached (k : StrokeKind) : StrokeMsg → PoleSet
  | .result r => if r.kind = k then r.reached else Tri.empty
  | .grant _ => Tri.empty
  | .refusal _ _ => Tri.empty

/-- The poles a stroke of this kind is in flight for: the stroke itself, or its result not yet taken
(log entry 13). -/
def inFlight (k : StrokeKind) (s : State) : PoleSet :=
  (match s.en.stroke with
    | some x => if x.kind = k then x.poles else Tri.empty
    | none => Tri.empty).union
    (s.mail.strokes.foldl (fun u m => u.union (resultReached k m)) Tri.empty)

/-- The poles of a trip request on its way to the queue. -/
def tripMsgPoles : EnergyMsg → PoleSet
  | .trip ps _ _ => ps
  | .close _ _ => Tri.empty
  | .withdraw _ _ => Tri.empty

/-- The poles that stand in a waiting trip request. -/
def waitingTrips (s : State) : PoleSet :=
  (unionPoles (s.en.queue.filter StrokeRequest.isTrip)).union
    (s.mail.requests.foldl (fun u m => u.union (tripMsgPoles m)) Tri.empty)

/-! ## The requests that records with a trip in hand have joined (R44, log entry 56) -/

/-- The poles whose records have joined a trip result, handed and not yet taken. -/
def joinedResult : StrokeMsg → PoleSet
  | .result r => r.joined
  | .grant _ => Tri.empty
  | .refusal _ _ => Tri.empty

/-- The poles whose records join a request on its way to the queue. A withdrawal on its way takes none
of them out of a request: the grant may still be taken first (R66). -/
def joinedMsg : EnergyMsg → PoleSet
  | .trip _ _ joined => joined
  | .close _ _ => Tri.empty
  | .withdraw _ _ => Tri.empty

/-- The poles whose records have joined a trip request that has not come to its end: in flight, with its
result not yet taken, in the queue, on its way to it, or held for its second attempt. -/
def tripOutstanding (s : State) : PoleSet :=
  let flight : PoleSet := match s.en.stroke with
    | some k => k.joined
    | none => Tri.empty
  let results := s.mail.strokes.foldl (fun u m => u.union (joinedResult m)) Tri.empty
  let waiting := (unionJoined s.en.queue).union
    (s.mail.requests.foldl (fun u m => u.union (joinedMsg m)) Tri.empty)
  let retried := s.seq.retries.foldl (fun u g => u.union g.joined) Tri.empty
  ((flight.union results).union waiting).union retried

/-- The trip in hand and the capture field are cleared. -/
def SeqRecord.clearTrip (r : SeqRecord) : SeqRecord := { r with trip := none, capture := none }

/-- A trip in hand no request of which can come to an end any more is cleared: when the withdrawal that
took the last one out of the queue is taken, and when its record takes up a new course (log entry 14). -/
def dropStaleTrips (ps : PoleSet) (s : State) : State :=
  mapRecs (ps.diff (tripOutstanding s)) SeqRecord.clearTrip s

/-! ## The judgement of a trip (R44) -/

/-- The record counts for the TRIP event: a trip in hand and no outcome note COMMAND. -/
def SeqRecord.counts (r : SeqRecord) : Bool :=
  r.trip.isSome && (match r.note with
    | some (.command _) => false
    | some .externalOpen => true
    | none => true)

/-- The highest peaks among some records, channel by channel, with every saturated flag. -/
def highestPeaks (l : List SeqRecord) : Quad Nat × Quad Bool :=
  (l.foldl (fun q r => q.zip max r.peaks) (Quad.all 0),
    l.foldl (fun q r => q.zip or r.peakSat) (Quad.all false))

/-- The earliest of some times, if there is one. -/
def earliest : List Nat → Option Nat
  | [] => none
  | t :: ts => some (ts.foldl min t)

/-- The TRIP event of the records of some poles, of which some opened (R44). -/
def raiseTrip (counting opened : PoleSet) (s : State) : State :=
  let recs := counting.poles.map fun p => s.seq.recs.get p
  let trip := agreed (recs.filterMap SeqRecord.trip) s
  match trip.1 with
  | none => s
  | some t =>
    let wait := agreed (recs.filterMap fun r => r.trip.bind TripInHand.wait) trip.2
    let capture := agreed (recs.filterMap SeqRecord.capture) wait.2
    let peaks := highestPeaks recs
    let pickup := earliest (recs.filterMap SeqRecord.pickupTime)
    raise .sequence
      (.trip opened t.name t.op peaks.1 peaks.2 (pickup.map fun p => t.time - p + 2) wait.1 capture.1)
      capture.2

/-- A trip request has come to its end for these poles, of which some opened (R44): one TRIP event when
a pole of the records that count opened, and every trip in hand of the request is cleared. -/
def judgeTrip (poles opened : PoleSet) (s : State) : State :=
  let counting := poles.inter (polesWhere s SeqRecord.counts)
  let shown := counting.inter opened
  let s' := if shown.isEmpty then s else raiseTrip counting shown s
  mapRecs (poles.inter (polesWhere s' fun r => r.trip.isSome)) SeqRecord.clearTrip s'

/-- A trip request has come to its end: it is judged when records with a trip in hand have joined it,
whatever its origin (R44, R64, log entry 56). -/
def judgeRequest (joined poles opened : PoleSet) (s : State) : State :=
  if joined.isEmpty then s else judgeTrip poles opened s

/-! ## Withdrawn retries (R44, R57, R58, log entry 16) -/

/-- The poles of a result of attempt 2, handed and not yet taken. -/
def retryResult : StrokeMsg → PoleSet
  | .result r => if decide (r.kind = .trip) && decide (r.attempt ≠ 1) then r.poles else Tri.empty
  | .grant _ => Tri.empty
  | .refusal _ _ => Tri.empty

/-- The poles whose second attempt has ended with its result not yet taken. -/
def retryResults (s : State) : PoleSet :=
  s.mail.strokes.foldl (fun u m => u.union (retryResult m)) Tri.empty

/-- The poles whose second attempt is still to end: waiting, in flight, or with its result not yet
taken. -/
def retryComing (s : State) : PoleSet :=
  let waiting := unionPoles (s.en.queue.filter (StrokeRequest.isTripOf 2))
  let flight : PoleSet := match s.en.stroke with
    | some k => if decide (k.kind = .trip) && decide (k.attempt ≠ 1) then k.poles else Tri.empty
    | none => Tri.empty
  (waiting.union flight).union (retryResults s)

/-- A retried request without the poles whose second attempt has been withdrawn. -/
def RetryGroup.without (gone : PoleSet) (g : RetryGroup) : RetryGroup :=
  { g with missed := g.missed.diff gone }

/-- The requests that end because their retried poles have been withdrawn are judged. -/
def judgeEnded : List RetryGroup → State → State
  | [], s => s
  | g :: gs, s => judgeEnded gs (judgeRequest g.joined g.poles g.opened s)

/-- Retries of some poles have left the queue by a withdrawal: the poles leave their requests, and a
request with none left is judged by what opened (log entry 16). A pole whose second attempt has ended
already waits for that result. -/
def dropRetries (ps : PoleSet) (s : State) : State :=
  let gone := ps.diff (retryResults s)
  let ends := fun (g : RetryGroup) => g.missed.meets gone && (g.without gone).missed.isEmpty
  judgeEnded (s.seq.retries.filter ends)
    { s with seq := { s.seq with
        retries := (s.seq.retries.filter fun g => !ends g).map (RetryGroup.without gone) } }

/-! ## The trip mode (R52) -/

/-- Each record's shot count becomes the highest of the three. -/
def levelShots (s : State) : State :=
  let high := max (s.seq.recs.a.shot) (max s.seq.recs.b.shot s.seq.recs.c.shot)
  mapRecs Tri.full (fun r => { r with shot := high }) s

/-- The elements of two sets. -/
def ElementSet.union (x y : ElementSet) : ElementSet :=
  { phase := x.phase.union y.phase, ground := x.ground || y.ground, hot := x.hot.union y.hot }

/-- A record in REST takes the fault that another record times, and a record in TIMING keeps its own; the
elements up become one set (R50). -/
def SeqRecord.joinTiming (up : ElementSet) (t r : SeqRecord) : SeqRecord :=
  if r.state = .rest then
    { r with
      state := .timing, timer := none, origin := t.origin, up := up, longest := t.longest,
      pickupTime := t.pickupTime, pickupSet := t.pickupSet, peaks := t.peaks, peakSat := t.peakSat,
      capture := t.capture }
  else { r with up := up }

/-- The pickups that have reached some records reach all three (R50). -/
def joinPickups (s : State) : State :=
  let up := (s.seq.recs.a.up.union s.seq.recs.b.up).union s.seq.recs.c.up
  match ((polesWhere s fun r => decide (r.state = .timing)).poles.map fun p => s.seq.recs.get p).head? with
  | some t => mapRecs Tri.full (SeqRecord.joinTiming up t) s
  | none => s

/-- The records at a change to GANGED (R52). With all in REST, or all in one state, none moves; with some in
LOCKOUT, the others follow by the paths of R51, which takes those in REST to LOCKOUT THREE_POLE and trips
them. A record in another state has left rest with the notice still on its way (R176, log entry 76, DESIGN
CHOICE): a pickup then reaches all three, any other departure takes those not in LOCKOUT there, so that the
three hold one state (R50). -/
def gangRecords (s : State) : State :=
  let sts := s.seq.recs.map SeqRecord.state
  let waking := polesWhere s fun r => decide (r.state = .rest) || decide (r.state = .timing)
  if Tri.full.within waking then joinPickups s
  else if sts.a = sts.b ∧ sts.b = sts.c then s
  else spreadThreePole s

/-- A change of trip mode at the apply of a PROTECTION block (R52): one to GANGED brings the records together
and gives each the highest shot count. -/
def changeTripMode (old : TripMode) (s : State) : State :=
  match old, s.cfg.prot.tripMode with
  | .single, .ganged => levelShots (gangRecords s)
  | .single, .single => s
  | .ganged, .single => s
  | .ganged, .ganged => s

/-! ## Commands (R54 to R56) -/

/-- A record goes to TRIPPING for a stroke that no OPERATE asked for, with an outcome note. -/
def SeqRecord.toTripping (note : OutcomeNote) (r : SeqRecord) : SeqRecord :=
  { r with
    state := .tripping, timer := none, cause := none, up := noElements, origin := none,
    closeOrigin := none, note := some note }

/-- A commanded trip of a well-formed set, each record taken by its state at the arrival (R54). The spec
gives no order of the records: DESIGN CHOICE (log entry 58), the request of the closed poles is posted
first, and the LOCKOUT COMMAND of a pole that waits to close, which in SINGLE mode spreads over every
record not in LOCKOUT, comes last. Nor does it say whether the poles in LOCKOUT that show CLOSED share a
request or where theirs stands: DESIGN CHOICE (log entry 85), one request for them all, behind that of the
closed ones. -/
def commandTrip (src : CmdSource) (set : PoleSet) (s : State) : State :=
  let set := widen s set
  let closed := set.inter (polesWhere s fun r => r.state.holdsClosed)
  let tripping := set.inter (polesWhere s fun r => decide (r.state = .tripping))
  let waiting := set.inter (polesWhere s fun r =>
    decide (r.state = .deadTime) || decide (r.state = .closeWait))
  let closing := set.inter (polesWhere s fun r => decide (r.state = .closing))
  let locked := (set.inter (lockedPoles s)).inter (shownClosed s)
  let s := postTrip closed src.origin (mapRecs closed (SeqRecord.toTripping (.command src)) s)
  let s := mapRecs tripping (fun r => { r with note := some (.command src) }) s
  let s := mapRecs closing (fun r => { r with tripAfter := some (.command src) }) s
  let s := postTrip locked src.origin (dropStaleTrips locked s)
  lockPoles { cause := .command, source := some src } waiting s

/-- A commanded trip as its operand spells it: the answer, and the state after (R54). -/
def takeTripCommand (src : CmdSource) (b : Byte) (s : State) : ResultCode × State :=
  match poleSetOf b with
  | none => (.badValue, s)
  | some set => if set.isEmpty then (.badValue, s) else (.accepted, seqEvent (commandTrip src set) s)

/-- The summary blocks a commanded close (R55 check 3). -/
def summaryBlocks (src : CmdSource) (t : TagSummary) : Bool :=
  t.kinds.hotLine || t.kinds.doNotClose || t.kinds.systemHold || t.hold
    || (decide (src = .radio) && t.kinds.remoteBlock)

/-- The selector keeps a source from closing (R55 check 1). -/
def selectorRefuses (src : CmdSource) (remote : Bool) : Bool :=
  match src with
  | .cabinet => remote
  | .radio => !remote

/-- The first check of R55 that fails, if any. -/
def closeCheck (src : CmdSource) (set : PoleSet) (s : State) : Option ResultCode :=
  if selectorRefuses src s.meas.inputs.selectorRemote then some .refusedLocal
  else if s.meas.inputs.leverTripped then some .refusedLever
  else if summaryBlocks src s.seq.summary then some .refusedTag
  else if s.bat.power = some .holdover then some .refusedEnergy
  else if (widen s set).within ((lockedPoles s).diff s.en.failed) then none
  else some .refusedState

/-- A record leaves LOCKOUT on an accepted close (R55). -/
def SeqRecord.toCloseWait (o : CloseOrigin) (now : Nat) (r : SeqRecord) : SeqRecord :=
  { r with
    state := .closeWait, cause := none, closeOrigin := some o,
    timer := some { kind := .closeWait, deadline := now + 5000 } }

/-- An accepted close (R55). -/
def acceptClose (src : CmdSource) (set : PoleSet) (s : State) : State :=
  let set := widen s set
  postClose set src.origin
    (mapRecs set (SeqRecord.toCloseWait src.closeOrigin s.elapsed) (dropStaleTrips set s))

/-- A refused close raises CLOSE_BLOCKED and sets "blocked close seen" (R56). -/
def blockClose (src : CmdSource) (b : Byte) (code : ResultCode) (s : State) : State :=
  raise .sequence (.closeBlocked src b code) { s with seq := { s.seq with blockedSeen := true } }

/-- A commanded close as its operand spells it: the answer, and the state after (R55, R56). -/
def takeCloseCommand (src : CmdSource) (b : Byte) (s : State) : ResultCode × State :=
  match poleSetOf b with
  | none => (.badValue, s)
  | some set =>
    if set.isEmpty then (.badValue, s)
    else
      match closeCheck src set s with
      | some code => (code, blockClose src b code s)
      | none => (.accepted, seqEvent (acceptClose src set) s)

/-! ## Creating the records (R35, R129) -/

/-- The record of a pole at protection set-up (R35). -/
def createRecord (closed failed : Bool) (lockOps : Nat) : SeqRecord :=
  if closed && !failed then { startRecord with lockOps := lockOps }
  else { startRecord with lockOps := lockOps, state := .lockout, cause := some .startOpen }

/-- Protection is set up (R129, R35): the pole states are handed, the records are created, the lockout
of open or FAILED poles is reported and taken to the others (log entry 15), and protection at rest is
judged and reported for the first time. R35 trips a FAILED pole that shows CLOSED as the closed poles locked
out with it are, and states neither whether in one request nor in which order: DESIGN CHOICE (log entry 90),
in both trip modes the FAILED poles have a request of their own, posted first. -/
def setUpProtection (s : State) : State :=
  let s := { s with seq := { s.seq with view := s.meas.pole } }
  let closed := shownClosed s
  let bad : PoleSet := Tri.of fun p => !(closed.get p && !s.en.failed.get p)
  let s := { s with seq := { s.seq with
    created := true,
    recs := Tri.of fun p => createRecord (closed.get p) (s.en.failed.get p) (lockOpsInForce s) } }
  let s :=
    if bad.isEmpty then s
    else
      spreadThreePole
        (postTrip (bad.inter closed) .threePole (raiseLockout .startOpen [] bad s))
  let now := protectionAtRest s.seq
  { s with
    seq := { s.seq with saidAtRest := now },
    mail := { s.mail with
      stageRest := s.mail.stageRest ++ [now],
      rest := s.mail.rest ++ [{ departure := false, change := some now }] } }

end Sys2Proof.Machine
end

