-- ==== Sys2Proof/Machine/Energy.lean ====
section
/-! DEFINITION. The commands of the actuator and energy unit (chapter 4). -/

namespace Sys2Proof.Machine

/-! ## Requests (R64 to R66) -/

/-- The waiting trips of attempt 1 that share a pole with a set. -/
def mergeable (poles : PoleSet) (r : StrokeRequest) : Bool := r.isTripOf 1 && r.poles.meets poles

/-- The queue with the requests that share a pole with the arrival merged into the oldest of them (R64):
the first in the queue takes the union and the alarm of all, and every record that has joined one of
them, the others go. -/
def mergeTrips (poles joined : PoleSet) : List StrokeRequest → List StrokeRequest
  | [] => []
  | r :: rs =>
    if mergeable poles r then
      let others := rs.filter (mergeable poles)
      { r with
        poles := (r.poles.union poles).union (unionPoles others),
        joined := (r.joined.union joined).union (unionJoined others),
        alarm := r.alarm || others.any StrokeRequest.alarm }
        :: rs.filter fun x => !mergeable poles x
    else r :: mergeTrips poles joined rs

/-- A trip request of its own, displacing a close when the queue is full (R64, R65). -/
def enterTrip (poles : PoleSet) (origin : StrokeOrigin) (joined : PoleSet) (s : State) : State :=
  let s := displace s
  { s with en := { s.en with
      queue := insertRequest
        { kind := .trip, poles := poles, origin := origin, joined := joined, arrival := s.elapsed,
          attempt := 1, alarm := false } s.en.queue } }

/-- The poles of an arrival that are not already being retried (R64). -/
def uncovered (poles : PoleSet) (q : List StrokeRequest) : PoleSet :=
  poles.diff (unionPoles (q.filter (StrokeRequest.isTripOf 2)))

/-- The records of an arrival whose poles are already being retried join the requests that retry them
(R44, R64). -/
def joinRetries (joined : PoleSet) (q : List StrokeRequest) : List StrokeRequest :=
  q.map fun r =>
    if r.isTripOf 2 then { r with joined := r.joined.union (joined.inter r.poles) } else r

/-- The first two steps of R64. -/
def placeTrip (poles : PoleSet) (origin : StrokeOrigin) (joined : PoleSet) (s : State) : State :=
  let left := uncovered poles s.en.queue
  let s := { s with en := { s.en with queue := joinRetries joined s.en.queue } }
  if left.isEmpty then s
  else if s.en.queue.any (mergeable left) then
    { s with en := { s.en with queue := mergeTrips left (joined.inter left) s.en.queue } }
  else enterTrip left origin (joined.inter left) s

/-- A trip request is taken (R64); every close that shares a pole with it is refused TRIP_WAITING. -/
def takeTrip (poles : PoleSet) (origin : StrokeOrigin) (joined : PoleSet) (s : State) : State :=
  judgeArbiter
    (refuseCloses .tripWaiting (fun r => r.poles.meets poles) (placeTrip poles origin joined s))

/-- The first check of R65 that fails, if any. -/
def closeRefusal (poles : PoleSet) (origin : StrokeOrigin) (s : State) : Option RefusalReason :=
  if s.bat.power = some .holdover then some .holdover
  else if tagBlocks s.tags origin then some .tag
  else if s.en.queue.any fun r => r.isTrip && r.poles.meets poles then some .tripWaiting
  else if s.en.failed.meets poles then some .failed
  else if strokeCapacity ≤ s.en.queue.length then some .queueFull
  else none

/-- A close request is taken (R65). -/
def takeClose (poles : PoleSet) (origin : StrokeOrigin) (s : State) : State :=
  match closeRefusal poles origin s with
  | some reason => handStroke (.refusal poles reason) s
  | none =>
    judgeArbiter { s with en := { s.en with
      queue := insertRequest
        { kind := .close, poles := poles, origin := origin, joined := Tri.empty, arrival := s.elapsed,
          attempt := 1, alarm := false } s.en.queue } }

/-- The poles of a set that wait in the requests meeting a condition. -/
def waitingIn (poles : PoleSet) (which : StrokeRequest → Bool) (s : State) : PoleSet :=
  poles.inter (unionPoles (s.en.queue.filter which))

/-- Trips of some poles have been withdrawn: a retried request that ends by it is judged, and a trip in
hand none of whose requests is left is cleared (log entries 14 and 16). -/
def endWithdrawn (retried gone : PoleSet) (s : State) : State :=
  dropStaleTrips gone (dropRetries retried s)

/-- A withdrawal is taken (R66): no answer is drawn, and one that finds none of its poles waiting has no
effect. -/
def takeWithdrawal (kind : StrokeKind) (poles : PoleSet) (s : State) : State :=
  let ofKind := fun (r : StrokeRequest) => decide (r.kind = kind)
  let gone := waitingIn poles ofKind s
  let left := { s with en := { s.en with queue := takeOut poles ofKind s.en.queue } }
  if gone.isEmpty then s
  else
    judgeArbiter (match kind with
      | .close => left
      | .trip => endWithdrawn (waitingIn poles (StrokeRequest.isTripOf 2) s) gone left)

/-- The oldest message of the sequence controller has been taken. -/
def popRequest (rest : List EnergyMsg) (s : State) : State :=
  { s with mail := { s.mail with requests := rest } }

/-- TRIP_REQUEST_ARRIVAL (R64). -/
def execTripRequestArrival : State → Result :=
  whenRunning fun s =>
    match s.mail.requests with
    | .trip poles origin joined :: rest => takeTrip poles origin joined (popRequest rest s)
    | .close _ _ :: _ => s
    | .withdraw _ _ :: _ => s
    | [] => s

/-- CLOSE_REQUEST_ARRIVAL (R65). -/
def execCloseRequestArrival : State → Result :=
  whenRunning fun s =>
    match s.mail.requests with
    | .close poles origin :: rest => takeClose poles origin (popRequest rest s)
    | .trip .. :: _ => s
    | .withdraw _ _ :: _ => s
    | [] => s

/-- REQUEST_WITHDRAWAL (R66). -/
def execRequestWithdrawal : State → Result :=
  whenRunning fun s =>
    match s.mail.requests with
    | .withdraw kind poles :: rest => takeWithdrawal kind poles (popRequest rest s)
    | .trip .. :: _ => s
    | .close _ _ :: _ => s
    | [] => s

/-! ## The course of a stroke (R69 to R71) -/

/-- A pole-state change of the stroke in flight: completion when every pole of the request shows the
target (R69). A close that the lever has cut stays in flight until its stroke timer (R70). -/
def judgeCompletion (p : Pole) (s : State) : State :=
  match s.en.stroke with
  | none => s
  | some k =>
    if k.poles.get p && !k.cut && (driveSet s.en.view k.kind k.poles).isEmpty then
      endStroke k Tri.empty s
    else s

/-- STROKE_POLE_CHANGE (R69): the oldest pole-state change handed to the unit. -/
def execStrokePoleChange : State → Result :=
  whenRunning fun s =>
    match s.mail.enPoles with
    | [] => s
    | (p, st) :: rest =>
      judgeCompletion p
        { s with
          mail := { s.mail with enPoles := rest },
          en := { s.en with view := s.en.view.set p st } }

/-- The stroke timer has expired: the poles that do not show the target at this moment are missed
(R69). -/
def timeoutStroke (s : State) : State :=
  match s.en.stroke with
  | none => s
  | some k =>
    if k.deadline ≤ s.elapsed then endStroke k (driveSet s.en.view k.kind k.poles) s else s

/-- STROKE_TIMEOUT (R69). -/
def execStrokeTimeout : State → Result := whenRunning timeoutStroke

/-- SETTLE_TIME_EXPIRY (R71). -/
def execSettleTimeExpiry : State → Result :=
  whenRunning fun s =>
    if due s.en.settle s then judgeArbiter { s with en := { s.en with settle := none } } else s

/-! ## Waiting for energy (R75) -/

/-- The waiting trip request that holds a pole and has waited 2,000 ms with its alarm not raised. -/
def alarmDue (now : Nat) (p : Pole) (r : StrokeRequest) : Bool :=
  r.isTrip && r.poles.get p && !r.alarm && decide (r.arrival + 2000 ≤ now)

/-- The ENERGY_FAIL event of a request (R75). -/
def energyFailBody (s : State) (r : StrokeRequest) : EventBody :=
  .energyFail r.poles r.attempt
    (strokeLevel s.cfg.prot .trip (driveSet s.en.view .trip r.poles).card) s.en.bank s.en.charger
    s.bat.power

/-- ENERGY_FAIL (R75). -/
def execEnergyFail (p : Pole) : State → Result :=
  whenRunning fun s =>
    match s.en.queue.find? (alarmDue s.elapsed p) with
    | none => s
    | some r =>
      raise .energy (energyFailBody s r)
        { s with en := { s.en with
            queue := s.en.queue.map fun x =>
              if alarmDue s.elapsed p x then { x with alarm := true } else x } }

/-! ## The lever and tags (R70, R76) -/

/-- TRIPPED cuts a close in flight (R70). -/
def cutClose (k : Stroke) : Stroke :=
  match k.kind with
  | .trip => k
  | .close => { k with cut := true, pulse := false }

/-- STROKE_LEVER_CHANGE (R70): the oldest lever change handed to the unit. -/
def execStrokeLeverChange : State → Result :=
  whenRunning fun s =>
    match s.mail.enLever with
    | [] => s
    | tripped :: rest =>
      judgeArbiter
        { s with
          mail := { s.mail with enLever := rest },
          en := { s.en with stroke := if tripped then s.en.stroke.map cutClose else s.en.stroke } }

/-- The waiting closes a tag signal withdraws, if it withdraws any (R76). -/
def signalBlocks : TagSignal → Option (StrokeRequest → Bool)
  | .inForce .hotLine => some fun _ => true
  | .inForce .doNotClose => some fun _ => true
  | .inForce .systemHold => some fun _ => true
  | .inForce .remoteBlock => some fun r => r.origin.remoteBlocked
  | .holdSet => some fun _ => true
  | .removed _ _ => none
  | .holdCleared => none

/-- ENERGY_TAG_SIGNAL (R76): the oldest tag signal handed to the unit. -/
def execEnergyTagSignal : State → Result :=
  whenRunning fun s =>
    match s.mail.enTags with
    | [] => s
    | sig :: rest =>
      let s := { s with mail := { s.mail with enTags := rest } }
      match signalBlocks sig with
      | some which => judgeArbiter (refuseCloses .tag which s)
      | none => judgeArbiter s

/-! ## Clearing a FAILED mark (R77) -/

/-- The owner's handling of POLE_FAIL_CLEAR (R77). A pole that is UNKNOWN and carries no mark meets two lines
of R77, which states no order of them: DESIGN CHOICE (log entry 87), UNKNOWN is checked first and the answer is
REFUSED_STATE. -/
def servePoleFailClear (pole : Byte) (id : Nat) (s : State) : State :=
  match poleOf pole with
  | none => answerCode id .badIndex s
  | some p =>
    if s.en.view.get p = .unknown then answerCode id .refusedState s
    else if s.en.failed.get p then
      requestRewrite { s with en := { s.en with
        failed := s.en.failed.set p false,
        owed := s.en.owed ++ [{ request := id, covered := false }] } }
    else answerCode id .ok s

/-- POLE_FAIL_CLEAR (R77). -/
def execPoleFailClear (tag pole : Byte) : State → Result :=
  whenRunning (request 16#8 tag (servePoleFailClear pole))

end Sys2Proof.Machine
end

