-- ==== Sys2Proof/Machine/Events.lean ====
section
/-! DEFINITION. The commands of the event queue (chapter 8). -/

namespace Sys2Proof.Machine

/-! ## Arrivals (R134) -/

/-- The oldest record that a source has raised. -/
def oldestRaised (source : RecordSource) (l : List (RecordSource × EventBody)) : Option EventBody :=
  (l.find? fun e => decide (e.1 = source)).map Prod.snd

/-- The mail without the oldest record of a source. -/
def takeRaised (source : RecordSource) (s : State) : State :=
  { s with mail := { s.mail with
      raised := removeFirst (fun e => decide (e.1 = source)) s.mail.raised } }

/-- A record is taken on its arrival: one of kind STATUS as R137 states, any other as R134 states. -/
def takeArrival (body : EventBody) (s : State) : State :=
  if body.cls = .status then statusArrives s else takeIn body s

/-- The oldest record of a source arrives. -/
def recordArrives (source : RecordSource) (s : State) : State :=
  if mayArrive source s then
    match oldestRaised source s.mail.raised with
    | none => s
    | some body => takeArrival body (takeRaised source s)
  else s

/-- RECORD_ARRIVAL (R134): the event queue takes the oldest record of a block. -/
def execRecordArrival (source : RecordSource) : State → Result := whenRunning (recordArrives source)

/-! ## Fetching (R142, R143) -/

/-- A record the cabinet controller has not fetched. -/
def EventRecord.unfetched (r : EventRecord) : Bool := decide (r.cabinet = .pending)

/-- The record is marked FETCHED. -/
def EventRecord.fetch (r : EventRecord) : EventRecord := { r with cabinet := .fetched }

/-- The oldest record that is not fetched is given, marked FETCHED and judged for removal (R142). -/
def giveRecord (id : Nat) (r : EventRecord) (s : State) : State :=
  changeRecord r.number EventRecord.fetch
    (answer id .ok (.event (cabinetPending s.eq.records - 1) r) s)

/-- A fetch waits with a timer of 2,000 ms (R143). -/
def startFetchWait (id : Nat) (s : State) : State :=
  { s with eq := { s.eq with fetch := some { request := id, deadline := s.elapsed + 2000 } } }

/-- A valid fetch (R142). -/
def takeFetch (wait : Bool) (id : Nat) (s : State) : State :=
  match s.eq.records.find? EventRecord.unfetched with
  | some r => giveRecord id r s
  | none => if wait then startFetchWait id s else answerCode id .empty s

/-- The owner's handling of EVENT_FETCH: the wait flag is 0 NO or 1 YES (R142, section 12.2). -/
def serveEventFetch (wait : Byte) (id : Nat) (s : State) : State :=
  match wait.toNat with
  | 0 => takeFetch false id s
  | 1 => takeFetch true id s
  | _ => answerBadValue id none s

/-- EVENT_FETCH (R142). -/
def execEventFetch (tag wait : Byte) : State → Result :=
  whenRunning (request 3#8 tag (serveEventFetch wait))

/-- FETCH_WAIT_EXPIRY (R143): the waiting fetch is answered EMPTY. -/
def execFetchWaitExpiry : State → Result :=
  whenRunning fun s => if due (s.eq.fetch.map FetchWait.deadline) s then endFetchEmpty s else s

end Sys2Proof.Machine
end

