-- ==== Sys2Proof/Machine/Measurement.lean ====
section
/-! DEFINITION. The commands of the measurement unit but for the slow channels (chapter 1): measurement
sets, field inputs, pole states and operation counters. -/

namespace Sys2Proof.Machine

/-! ## Measurement sets (R1) -/

/-- The magnitude a set carries for a channel: at most 20,000 A. -/
def heldMagnitude (n : Nat) : Nat := min n 20000

/-- A channel saturates above 20,000 A. -/
def saturated (n : Nat) : Bool := decide (20000 < n)

/-- The set delivered for what the sense paths present. -/
def deliveredSet (m : Quad Nat) (s : State) : MeasSet :=
  { index := s.meas.latest.index + 1, time := s.elapsed, mag := m.map heldMagnitude,
    sat := m.map saturated }

/-- The delivery of a set: it becomes the latest set, and the three consumers are handed it (R1). -/
def deliverSet (m : MeasSet) (s : State) : State :=
  { s with
    meas := { s.meas with latest := m, nextSet := s.meas.nextSet + 2 },
    mail := { s.mail with
      ocSets := s.mail.ocSets ++ [m], seqSets := s.mail.seqSets ++ [m],
      capSets := s.mail.capSets ++ [m] } }

/-- MEASUREMENT_SET (R1, R2): the first set falls due 2 ms after start, then one every 2 ms. -/
def execMeasurementSet (a b c g : Nat) : State → Result :=
  whenRunning fun s =>
    if s.meas.nextSet ≤ s.elapsed then deliverSet (deliveredSet { a := a, b := b, c := c, g := g } s) s
    else s

/-! ## Pole states and counters (R8, R10) -/

/-- The largest counter value (R10). -/
def counterMax : Nat := 999999

/-- COUNTER_ALARM is raised when an increment takes the counter from below the threshold to it; a
threshold of 0 is off (R10). -/
def crossesThreshold (before after threshold : Nat) : Bool :=
  decide (threshold ≠ 0) && decide (before < threshold) && decide (threshold ≤ after)

/-- One opening is counted (R10). -/
def countOpening (p : Pole) (s : State) : State :=
  let before := s.meas.counters.get p
  let after := min counterMax (before + 1)
  let s := { s with meas := { s.meas with counters := s.meas.counters.set p after } }
  let s :=
    if crossesThreshold before after s.cfg.prot.maintenance then
      raise .measurement (.counterAlarm p after s.cfg.prot.maintenance) s
    else s
  requestRewrite s

/-- The counter's share of a pole state that has just become this one: an opening is counted when the
last definite state is CLOSED, and a definite state becomes the last definite state (R10). -/
def counterFollows (p : Pole) (new : PoleState) (s : State) : State :=
  match new with
  | .unknown => s
  | .closed => { s with meas := { s.meas with lastDefinite := s.meas.lastDefinite.set p (some .closed) } }
  | .opened =>
    let s' := { s with meas := { s.meas with lastDefinite := s.meas.lastDefinite.set p (some .opened) } }
    if s.meas.lastDefinite.get p = some .closed then countOpening p s' else s'

/-- A pole state changes to a different one and is handed to its consumers (R8). -/
def changePole (p : Pole) (new : PoleState) (s : State) : State :=
  if s.meas.pole.get p = new then s
  else
    counterFollows p new
      { s with
        meas := { s.meas with pole := s.meas.pole.set p new },
        mail := { s.mail with
          seqPoles := s.mail.seqPoles ++ [(p, new)], enPoles := s.mail.enPoles ++ [(p, new)] } }

/-- The pole state that two contacts give when they disagree; `none` when they agree (R8). -/
def contactState (a b : Bool) : Option PoleState :=
  match a, b with
  | true, false => some .closed
  | false, true => some .opened
  | true, true => none
  | false, false => none

/-- The derivation of a pole's state at a change of a debounced contact (R8): contacts that disagree
decide at once and stop the agreement timer; contacts that come to agree start it with 200 ms. -/
def derivePole (p : Pole) (s : State) : State :=
  match contactState (s.meas.inputs.contactA.get p) (s.meas.inputs.contactB.get p) with
  | some new => changePole p new { s with meas := { s.meas with agree := s.meas.agree.set p none } }
  | none =>
    { s with meas := { s.meas with agree := s.meas.agree.set p (some (s.elapsed + 200)) } }

/-- The debounced level of an input. -/
def inputLevel (i : Inputs) : FieldInput → Bool
  | .contactA p => i.contactA.get p
  | .contactB p => i.contactB.get p
  | .lever => i.leverTripped
  | .selector => i.selectorRemote

/-- The debounced states with one input changed. -/
def setInput (i : Inputs) (f : FieldInput) (level : Bool) : Inputs :=
  match f with
  | .contactA p => { i with contactA := i.contactA.set p level }
  | .contactB p => { i with contactB := i.contactB.set p level }
  | .lever => { i with leverTripped := level }
  | .selector => { i with selectorRemote := level }

/-- A changed input is handed to its consumers (R7). A selector change is only kept. -/
def inputChanged (f : FieldInput) (level : Bool) (s : State) : State :=
  match f with
  | .contactA p => derivePole p s
  | .contactB p => derivePole p s
  | .lever =>
    { s with mail := { s.mail with
        seqLever := s.mail.seqLever ++ [level], enLever := s.mail.enLever ++ [level] } }
  | .selector => s

/-- DEBOUNCED_INPUT_CHANGE (R7): an input that has stood at its other level for 10 ms changes. An
excursion shorter than that changes nothing, and no input changes before "inputs settled". -/
def execDebouncedInputChange (input : FieldInput) (level : Bool) (stood : Nat) : State → Result :=
  whenRunning fun s =>
    if s.meas.settled && decide (10 ≤ stood) && (inputLevel s.meas.inputs input != level) then
      inputChanged input level
        { s with meas := { s.meas with inputs := setInput s.meas.inputs input level } }
    else s

/-- POLE_UNKNOWN (R8): the agreement timer of the pole expires. -/
def execPoleUnknown (p : Pole) : State → Result :=
  whenRunning fun s =>
    if due (s.meas.agree.get p) s then
      let s := { s with meas := { s.meas with agree := s.meas.agree.set p none } }
      raise .measurement (.poleUnknown p (s.meas.inputs.contactA.get p)) (changePole p .unknown s)
    else s

/-! ## Counter requests (R11) -/

/-- The owner's handling of COUNTER_READ (R11): the three counters and the maintenance threshold in
force. -/
def serveCounterRead (id : Nat) (s : State) : State :=
  answer id .ok (.counters s.meas.counters s.cfg.prot.maintenance) s

/-- COUNTER_READ (R11). -/
def execCounterRead (tag : Byte) : State → Result := whenRunning (request 18#8 tag serveCounterRead)

/-- The owner's handling of COUNTER_SET (R11): the reply is owed until the covering write completes. Where
both the pole and the value are out of range R11 gives two codes and no order: DESIGN CHOICE (log entry
62), the pole is judged first. -/
def serveCounterSet (pole : Byte) (value : Wide) (id : Nat) (s : State) : State :=
  match poleOf pole with
  | none => answerCode id .badIndex s
  | some p =>
    if counterMax < value.toNat then answerBadValue id none s
    else
      requestRewrite { s with meas := { s.meas with
        counters := s.meas.counters.set p value.toNat,
        owed := s.meas.owed ++ [{ request := id, covered := false }] } }

/-- COUNTER_SET (R11). -/
def execCounterSet (tag pole : Byte) (value : Wide) : State → Result :=
  whenRunning (request 19#8 tag (serveCounterSet pole value))

end Sys2Proof.Machine
end

