-- ==== Sys2Proof/Machine/TagOps.lean ====
section
/-! DEFINITION. The shared operations of the tag controller (chapter 5): the roster, the checks of
placements and removals, their acceptance, signals and reports, and SYSTEM_HOLD with hold-pending. -/

namespace Sys2Proof.Machine

/-! ## The roster (R79, R80) -/

/-- The code is on the roster. -/
def rostered (roster : List RosterEntry) (code : Nat) : Bool :=
  roster.any fun e => decide (e.code = code)

/-- The code is a supervisor code. -/
def supervisorCode (roster : List RosterEntry) (code : Nat) : Bool :=
  roster.any fun e => decide (e.code = code) && e.supervisor

/-- A crew tag: HOT_LINE or DO_NOT_CLOSE, the kinds that carry a crew code (section 5.1). -/
def TagKind.crewTag : TagKind → Bool
  | .hotLine => true
  | .doNotClose => true
  | .remoteBlock => false
  | .systemHold => false

/-! ## Signals (R82) -/

/-- A tag signal is handed to the sequence controller and to the actuator and energy unit. -/
def handTag (sig : TagSignal) (s : State) : State :=
  { s with mail := { s.mail with
      seqTags := s.mail.seqTags ++ [sig], enTags := s.mail.enTags ++ [sig] } }

/-- "armed" or "disarmed" is handed to the overcurrent unit. -/
def handArming (armed : Bool) (s : State) : State :=
  { s with mail := { s.mail with arming := s.mail.arming ++ [armed] } }

/-- How many entries of a kind a table holds. -/
def countKind (k : TagKind) (t : List TagEntry) : Nat := (t.filter fun e => decide (e.kind = k)).length

/-! ## Tag content (R92) -/

/-- The status of an entry in a tag list: an entry both placing and removing shows REMOVING. -/
def TagEntry.status (e : TagEntry) : TagStatus :=
  if e.removal.isSome then .removing else if e.reported then .settled else .placing

/-- The line of an entry in a tag list. -/
def TagEntry.line (e : TagEntry) : TagLine :=
  { kind := e.kind, crew := e.crew, source := e.source, placedAt := e.placedAt, retained := e.retained,
    status := e.status }

/-- The tag content: hold-pending and the entries in table order. -/
def tagContent (s : State) : Bool × List TagLine := (s.tags.holdPending, s.tags.table.map TagEntry.line)

/-! ## Replies -/

/-- The reply to the optical frame in service begins (R96, R97). A frame that has left the buffer by a
block restart draws none (R98). It carries the entries and hold-pending as they stand when it is given. Where
the completion of a retained write gives it and also drops other entries or places SYSTEM_HOLD (R88, R91), the
spec does not say which of these it counts: DESIGN CHOICE (log entry 79), an entry marked LEFT counts until its
own drop, and hold-pending stands until R91 ends it after the drops. -/
def sendOptical (frame : Nat) (code : ResultCode) (lines : Option (List TagLine)) (s : State) : State :=
  match s.opt.buffer with
  | [] => s
  | f :: _ =>
    if f.id = frame ∧ s.opt.sending = none then
      { s with opt := { s.opt with
          sending := some
            { crew := f.crew, action := f.action, number := f.number, result := code,
              count := s.tags.table.length, hold := s.tags.holdPending, lines := lines } } }
    else s

/-- The answer of a placement or removal goes to its source (R84, R86, R93). -/
def replySource (replyDest : ReplyTo) (code : ResultCode) (s : State) : State :=
  match replyDest with
  | .nobody => s
  | .cabinet id => answerResult id code s
  | .optical frame => sendOptical frame code none s
  | .radio command number => putSlot command number code none s

/-! ## Placing (R83, R84) -/

/-- The most tags a table holds (R81). -/
def tagCapacity : Nat := 8

/-- The source may place the kind (R83). -/
def mayPlace (src : TagSource) (k : TagKind) : Bool :=
  match src, k with
  | .optical, .hotLine => true
  | .optical, .doNotClose => true
  | .optical, .remoteBlock => false
  | .optical, .systemHold => false
  | .cabinet, .hotLine => true
  | .cabinet, .doNotClose => true
  | .cabinet, .remoteBlock => true
  | .cabinet, .systemHold => false
  | .radio, .remoteBlock => true
  | .radio, .hotLine => false
  | .radio, .doNotClose => false
  | .radio, .systemHold => false
  | .internal, .systemHold => true
  | .internal, .hotLine => false
  | .internal, .doNotClose => false
  | .internal, .remoteBlock => false

/-- The table holds the entry that a placement would repeat (R83 step 4). -/
def alreadyHeld (t : List TagEntry) (k : TagKind) (crew : Nat) : Bool :=
  t.any fun e => decide (e.kind = k) && (!k.crewTag || decide (e.crew = some crew))

/-- The first check of R83 that fails for a listed kind, if any. -/
def placeCheck (src : TagSource) (k : TagKind) (crew : Nat) (s : State) : Option ResultCode :=
  if src = .cabinet ∧ k.crewTag ∧ 9999 < crew then some .badValue
  else if !mayPlace src k then some .refusedSource
  else if k.crewTag && !rostered s.cfg.roster crew then some .notRostered
  else if alreadyHeld s.tags.table k crew then some .alreadyHeld
  else if tagCapacity ≤ s.tags.table.length then some .tableFull
  else none

/-- The entry of an accepted placement (R84). -/
def newTag (src : TagSource) (k : TagKind) (crew : Nat) (replyDest : ReplyTo) (s : State) : TagEntry :=
  { kind := k, crew := if k.crewTag then some crew else none, source := src, placedAt := s.clock,
    retained := false, reported := false, removal := none, mark := .none, replyTo := replyDest }

/-- A placement is accepted: the entry, the signals, the request for a rewrite (R84, R82). -/
def acceptPlacement (src : TagSource) (k : TagKind) (crew : Nat) (replyDest : ReplyTo) (s : State) : State :=
  let first := countKind .hotLine s.tags.table = 0
  let s := { s with tags := { s.tags with table := s.tags.table ++ [newTag src k crew replyDest s] } }
  let s := handTag (.inForce k) s
  let s := if k = .hotLine ∧ first then handArming true s else s
  requestRewrite s

/-- A placement request of a listed kind is taken (R83, R84). -/
def takePlacement (src : TagSource) (k : TagKind) (crew : Nat) (replyDest : ReplyTo) (s : State) : State :=
  match placeCheck src k crew s with
  | some code => replySource replyDest code s
  | none => acceptPlacement src k crew replyDest s

/-! ## Removing (R85, R86, R91) -/

/-- What R85 finds for a removal request. -/
inductive RemovalFinding where
  | refuse (code : ResultCode)
  /-- the entry at this place of the table, and whether supervisor rights are used -/
  | entry (index : Nat) (supervisor : Bool)
  /-- hold-pending -/
  | pendingHold (supervisor : Bool)
  deriving DecidableEq, Repr

/-- The source may remove the kind at all (R85 step 2). -/
def mayRemove (src : TagSource) (k : TagKind) : Bool :=
  match src, k with
  | .optical, .hotLine => true
  | .optical, .doNotClose => true
  | .optical, .remoteBlock => false
  | .optical, .systemHold => true
  | .cabinet, .hotLine => true
  | .cabinet, .doNotClose => true
  | .cabinet, .remoteBlock => true
  | .cabinet, .systemHold => true
  | .radio, .remoteBlock => true
  | .radio, .hotLine => false
  | .radio, .doNotClose => false
  | .radio, .systemHold => false
  | .internal, .hotLine => false
  | .internal, .doNotClose => false
  | .internal, .remoteBlock => false
  | .internal, .systemHold => false

/-- The request carries a crew code that has to be rostered (R85 step 3). -/
def needsRoster : TagSource → Bool
  | .optical => true
  | .cabinet => true
  | .radio => false
  | .internal => false

/-- A candidate: an entry of the kind that is not removing. -/
def TagEntry.candidate (k : TagKind) (e : TagEntry) : Bool := decide (e.kind = k) && e.removal.isNone

/-- A candidate that holds a crew code. -/
def TagEntry.ownCandidate (k : TagKind) (crew : Nat) (e : TagEntry) : Bool :=
  e.candidate k && decide (e.crew = some crew)

/-- Steps 4 and 5 of R85 for a crew tag. A supervisor who removes an own tag uses no supervisor rights:
DEDUCED (R86, log entry 17). -/
def findCrewTag (src : TagSource) (k : TagKind) (crew : Nat) (s : State) : RemovalFinding :=
  match s.tags.table.findIdx? (TagEntry.ownCandidate k crew) with
  | some i => .entry i false
  | none =>
    if src = .optical then
      match s.tags.table.findIdx? (TagEntry.candidate k) with
      | none => .refuse .notHeld
      | some i =>
        if supervisorCode s.cfg.roster crew then .entry i true else .refuse .refusedSource
    else .refuse .notHeld

/-- Steps 4 and 5 of R85 for REMOTE_BLOCK. -/
def findRemoteBlock (s : State) : RemovalFinding :=
  match s.tags.table.findIdx? (TagEntry.candidate .remoteBlock) with
  | some i => .entry i false
  | none => .refuse .notHeld

/-- Steps 4 and 5 of R85 for SYSTEM_HOLD; from the cabinet the removal uses supervisor rights (log entry
17). -/
def findSystemHold (src : TagSource) (crew : Nat) (s : State) : RemovalFinding :=
  let allowed := decide (src = .optical) || supervisorCode s.cfg.roster crew
  let rights := decide (src = .cabinet)
  match s.tags.table.findIdx? (TagEntry.candidate .systemHold) with
  | some i => if allowed then .entry i rights else .refuse .refusedSource
  | none =>
    if s.tags.holdPending then (if allowed then .pendingHold rights else .refuse .refusedSource)
    else .refuse .notHeld

/-- The checks of R85 for a listed kind, in order. -/
def findRemoval (src : TagSource) (k : TagKind) (crew : Nat) (s : State) : RemovalFinding :=
  if !mayRemove src k then .refuse .refusedSource
  else if needsRoster src && !rostered s.cfg.roster crew then .refuse .notRostered
  else
    match k with
    | .hotLine => findCrewTag src k crew s
    | .doNotClose => findCrewTag src k crew s
    | .remoteBlock => findRemoteBlock s
    | .systemHold => findSystemHold src crew s

/-- The requester's crew code, where one was given. -/
def givenCode (src : TagSource) (crew : Nat) : Option Nat := if needsRoster src then some crew else none

/-- A removal is accepted: it is written into the entry, which stays in force, and a rewrite is
requested (R86). -/
def acceptRemoval (src : TagSource) (crew index : Nat) (supervisor : Bool) (replyDest : ReplyTo) (s : State) :
    State :=
  let r : Removal :=
    { source := src, code := givenCode src crew, supervisor := supervisor, replyTo := replyDest }
  requestRewrite { s with tags := { s.tags with
    table := s.tags.table.modify index fun e => { e with removal := some r } } }

/-- Hold-pending is removed at once (R91). -/
def removePendingHold (src : TagSource) (crew : Nat) (supervisor : Bool) (replyDest : ReplyTo) (s : State) :
    State :=
  let s := handTag .holdCleared { s with tags := { s.tags with holdPending := false } }
  raise .tags (.tagRemoved .systemHold none src (givenCode src crew) supervisor none true)
    (replySource replyDest .ok s)

/-- A removal request of a listed kind is taken (R85, R86, R91). -/
def takeRemoval (src : TagSource) (k : TagKind) (crew : Nat) (replyDest : ReplyTo) (s : State) : State :=
  match findRemoval src k crew s with
  | .refuse code => replySource replyDest code s
  | .entry i supervisor => acceptRemoval src crew i supervisor replyDest s
  | .pendingHold supervisor => removePendingHold src crew supervisor replyDest s

/-! ## SYSTEM_HOLD (R90) -/

/-- Hold-pending is set. -/
def setHoldPending (s : State) : State :=
  handTag .holdSet { s with tags := { s.tags with holdPending := true } }

/-- An INTERNAL placement of SYSTEM_HOLD is taken (R90). -/
def placeSystemHold (s : State) : State :=
  if s.tags.holdPending || s.tags.table.any (TagEntry.candidate .systemHold) then s
  else if s.tags.table.any fun e => decide (e.kind = .systemHold) then setHoldPending s
  else if s.tags.table.length < tagCapacity then acceptPlacement .internal .systemHold 0 .nobody s
  else setHoldPending s

/-! ## The completion of a retained write (R88, R89, R91) -/

/-- The answer of a report: OK without a store fault and OK_NOT_RETAINED with one. -/
def reportCode (fault : Bool) : ResultCode := if fault then .okNotRetained else .ok

/-- A placement is reported: the reply and TAG_PLACED. -/
def reportPlacement (e : TagEntry) (code : ResultCode) (retained : Bool) (s : State) : State :=
  raise .tags (.tagPlaced e.kind e.crew e.source e.placedAt retained) (replySource e.replyTo code s)

/-- The report an entry's placement is due at a completion, if any (R88, R89). -/
def reportEntry (fault : Bool) (e : TagEntry) (s : State) : State :=
  if e.reported then s
  else
    match e.mark with
    | .held => reportPlacement e (reportCode fault) (!fault) s
    | .left => reportPlacement e .ok false s
    | .none => s

/-- The placements due at a completion are reported in table order. -/
def reportPlacements (fault : Bool) : List TagEntry → State → State
  | [], s => s
  | e :: es, s => reportPlacements fault es (reportEntry fault e s)

/-- An entry after a completion, before the drops (R88). -/
def TagEntry.afterWrite (fault : Bool) (e : TagEntry) : TagEntry :=
  match e.mark with
  | .held => { e with retained := !fault, reported := true, mark := .none }
  | .left => { e with reported := true }
  | .none => e

/-- The removal of a dropped entry is reported: the reply and TAG_REMOVED (R88). -/
def reportRemoval (fault : Bool) (e : TagEntry) (s : State) : State :=
  match e.removal with
  | none => s
  | some r =>
    raise .tags (.tagRemoved e.kind e.crew r.source r.code r.supervisor (some (!fault)) false)
      (replySource r.replyTo (reportCode fault) s)

/-- An entry marked LEFT. -/
def TagEntry.isLeft (e : TagEntry) : Bool := decide (e.mark = .left)

/-- The first entry marked LEFT is dropped: it leaves the table, the signals are handed, and its removal
is reported (R88, R82). -/
def dropEntry (fault : Bool) (e : TagEntry) (s : State) : State :=
  let s := { s with tags := { s.tags with table := removeFirst TagEntry.isLeft s.tags.table } }
  let left := countKind e.kind s.tags.table
  let s := handTag (.removed e.kind left) s
  let s := if e.kind = .hotLine ∧ left = 0 then handArming false s else s
  reportRemoval fault e s

/-- The entries marked LEFT are dropped in table order. -/
def dropEntries (fault : Bool) : List TagEntry → State → State
  | [], s => s
  | e :: es, s => dropEntries fault es (dropEntry fault e s)

/-- A freed slot takes the pending hold (R91): "tag in force" is handed before "hold-pending cleared". -/
def fillPendingHold (s : State) : State :=
  if s.tags.holdPending && decide (s.tags.table.length < tagCapacity)
      && !(s.tags.table.any fun e => decide (e.kind = .systemHold)) then
    let s := acceptPlacement .internal .systemHold 0 .nobody s
    handTag .holdCleared { s with tags := { s.tags with holdPending := false } }
  else s

/-- The tag controller takes the completion of a retained write (R88, R91). The spec leaves open whether the
drop of an entry marked LEFT is reported before the placement of an entry behind it: DESIGN CHOICE (log
entry 70), every placement that is due is reported first, in table order, and then every drop. -/
def completeTags (fault : Bool) (s : State) : State :=
  let left := s.tags.table.filter TagEntry.isLeft
  let s := reportPlacements fault s.tags.table s
  let s := { s with tags := { s.tags with table := s.tags.table.map (TagEntry.afterWrite fault) } }
  let s := dropEntries fault left s
  if left.isEmpty then s else fillPendingHold s

end Sys2Proof.Machine
end

