-- ==== Sys2Proof/Machine/Optical.lean ====
section
/-! DEFINITION. The optical port (section 5.8): the receiver, the buffer, and the service of frames. -/

namespace Sys2Proof.Machine

/-- The action of a token frame (section 12.5). -/
inductive TokenAction where
  | place (k : TagKind)
  | remove (k : TagKind)
  | query
  | unknown
  deriving DecidableEq, Repr

/-- The action byte (section 12.5). -/
def tokenAction (b : Byte) : TokenAction :=
  match b.toNat with
  | 0 => .place .hotLine
  | 1 => .place .doNotClose
  | 2 => .remove .hotLine
  | 3 => .remove .doNotClose
  | 4 => .remove .systemHold
  | 5 => .query
  | _ => .unknown

/-- The frame in service has its action taken (R96). -/
def serveToken (f : TokenFrame) (s : State) : State :=
  match tokenAction f.action with
  | .place k => takePlacement .optical k f.crew.toNat (.optical f.id) s
  | .remove k => takeRemoval .optical k f.crew.toNat (.optical f.id) s
  | .query => sendOptical f.id .ok (some (tagContent s).2) s
  | .unknown => sendOptical f.id .badKind none s

/-- A frame that a full buffer discards (R95). -/
def overrun (crew : Half) (number : Byte) (s : State) : State :=
  if s.opt.overrun then s
  else raise .tags (.opticalOverrun number crew) { s with opt := { s.opt with overrun := true } }

/-- The receive buffer's capacity (R95). -/
def tokenCapacity : Nat := 4

/-- A frame joins the receive buffer, and enters service when it stands at its head (R95, R96). -/
def joinBuffer (crew : Half) (action number : Byte) (s : State) : State :=
  let f : TokenFrame := { id := s.opt.nextFrame, crew := crew, action := action, number := number }
  let s' := { s with opt := { s.opt with
    buffer := s.opt.buffer ++ [f], nextFrame := s.opt.nextFrame + 1 } }
  match s.opt.buffer with
  | [] => serveToken f s'
  | _ :: _ => s'

/-- A valid token frame arrives: "crew frame" is handed, and the frame is offered to the buffer (R94,
R95). -/
def validToken (crew : Half) (action number : Byte) (s : State) : State :=
  let s := crewFrame s
  if s.opt.buffer.length < tokenCapacity then joinBuffer crew action number s
  else overrun crew number s

/-- The receiver begins taking bytes once the start-up procedure has restored the tag table (R94). -/
def whenReading (f : State → State) (s : State) : State := if s.readsDone then f s else s

/-- A closed frame: its fields when its CRC-8 matches (R94, R179). -/
def closedToken (bytes : List Byte) (s : State) : State :=
  match bytes with
  | [_, c0, c1, action, number, crc] =>
    if crc8 [c0, c1, action, number] = crc then validToken (c1 ++ c0) action number s else s
  | _ => s

/-- One byte reaches the optical receiver (R94). -/
def opticalByte (b : Byte) (s : State) : State :=
  let stale := decide (s.opt.lastByte + 20 < s.elapsed)
  let held := if stale then [] else s.opt.openBytes
  match held with
  | [] =>
    { s with opt := { s.opt with
        openBytes := if b = 0x5A#8 then [b] else [], lastByte := s.elapsed } }
  | _ :: _ =>
    let bytes := held ++ [b]
    if bytes.length < 6 then
      { s with opt := { s.opt with openBytes := bytes, lastByte := s.elapsed } }
    else closedToken bytes { s with opt := { s.opt with openBytes := [], lastByte := s.elapsed } }

/-- Bytes reach the optical receiver one after the other. -/
def opticalBytes : List Byte → State → State
  | [], s => s
  | b :: bs, s => opticalBytes bs (opticalByte b s)

/-- TOKEN_FRAME (R94). -/
def execTokenFrame (bytes : List Byte) : State → Result := whenRunning (whenReading (opticalBytes bytes))

/-- OPTICAL_FRAME_GAP (R94): an open frame is discarded once more than 20 ms have passed without a
byte. -/
def execOpticalFrameGap : State → Result :=
  whenRunning fun s =>
    if s.opt.lastByte + 20 < s.elapsed then { s with opt := { s.opt with openBytes := [] } } else s

/-- PLACE_HOT_LINE (R96): a valid token frame with this action arrives. -/
def execPlaceHotLine (crew : Half) (number : Byte) : State → Result :=
  whenRunning (whenReading (validToken crew 0#8 number))

/-- PLACE_DO_NOT_CLOSE (R96). -/
def execPlaceDoNotClose (crew : Half) (number : Byte) : State → Result :=
  whenRunning (whenReading (validToken crew 1#8 number))

/-- REMOVE_HOT_LINE (R96). -/
def execRemoveHotLine (crew : Half) (number : Byte) : State → Result :=
  whenRunning (whenReading (validToken crew 2#8 number))

/-- REMOVE_DO_NOT_CLOSE (R96). -/
def execRemoveDoNotClose (crew : Half) (number : Byte) : State → Result :=
  whenRunning (whenReading (validToken crew 3#8 number))

/-- REMOVE_SYSTEM_HOLD (R96). -/
def execRemoveSystemHold (crew : Half) (number : Byte) : State → Result :=
  whenRunning (whenReading (validToken crew 4#8 number))

/-- QUERY (R97). -/
def execQuery (crew : Half) (number : Byte) : State → Result :=
  whenRunning (whenReading (validToken crew 5#8 number))

/-- The next frame enters service; an empty buffer clears the overrun note (R95, R96). -/
def serveNext (s : State) : State :=
  match s.opt.buffer with
  | [] => { s with opt := { s.opt with overrun := false } }
  | f :: _ => serveToken f s

/-- OPTICAL_REPLY_SENT (R96): the frame in service leaves the buffer. -/
def execOpticalReplySent : State → Result :=
  whenRunning fun s =>
    match s.opt.sending with
    | none => s
    | some r =>
      serveNext { s with opt := { s.opt with
        sending := none, sent := s.opt.sent ++ [r], buffer := s.opt.buffer.tail } }

/-- The owner's handling of BLOCK_RESTART naming OPTICAL (R98). -/
def serveRestartOptical (id : Nat) (s : State) : State :=
  answerCode id .ok { s with opt := { s.opt with
    openBytes := [], sending := none, buffer := [], overrun := false } }

/-- BLOCK_RESTART_OPTICAL (R98). -/
def execBlockRestartOptical (tag : Byte) : State → Result :=
  whenRunning (request 26#8 tag serveRestartOptical)

end Sys2Proof.Machine
end

