-- ==== Sys2Proof/Machine/TimeBase.lean ====
section
/-! DEFINITION. The time base (section 1.5). -/

namespace Sys2Proof.Machine

/-- One millisecond of the time base (R12). -/
def Stamp.tick (t : Stamp) : Stamp :=
  if t.ms + 1 < 1000 then { t with ms := t.ms + 1 }
  else { t with ms := 0, seconds := (t.seconds + 1) % 4294967296 }

/-- TIME_BASE_TICK (R12): one millisecond passes, of the time base and of the elapsed time that every
timer runs on (section 1.5). -/
def execTimeBaseTick : State → Result :=
  whenRunning fun s => { s with elapsed := s.elapsed + 1, clock := s.clock.tick }

/-- A valid setting of the time base (R13): the event holds the source and what was held before. -/
def setClock (source : CmdSource) (seconds : Wide) (word : Half) (s : State) : State :=
  raise .timeBase (.timeSet source s.clock)
    { s with clock := { seconds := seconds.toNat, ms := msOf word, synced := true } }

/-- A setting's milliseconds are above 999 (R13). -/
def badClock (word : Half) : Bool := decide (999 < msOf word)

/-- The owner's handling of TIME_SET (R13). -/
def serveTimeSet (seconds : Wide) (word : Half) (id : Nat) (s : State) : State :=
  if badClock word then answerBadValue id none s
  else answerCode id .ok (setClock .cabinet seconds word s)

/-- TIME_SET (R13). -/
def execTimeSet (tag : Byte) (seconds : Wide) (word : Half) : State → Result :=
  whenRunning (request 17#8 tag (serveTimeSet seconds word))

end Sys2Proof.Machine
end

