-- ==== Sys2Proof/Machine/RadioOps.lean ====
section
/-! DEFINITION. The shared operations of the radio controller (chapter 9): modem power, recovery, modem
frames, and the commands of the master station. -/

namespace Sys2Proof.Machine

/-! ## Modem power and recovery (R146, R148) -/

/-- The modem power switch is on, and the modem powered, while the radio controller asks for it and the
power state permits it (R117, R148). The power state acts at once; the controller takes the change of
permission when it is handed to it. -/
def modemPowered (s : State) : Bool := s.rad.request && modemPermitted s.bat.power

/-- RADIO_FAULT on an entry to RECOVERING, unless the fault-reported note is set (R146). -/
def reportRadioFault (cause : RadioFaultCause) (s : State) : State :=
  if s.rad.faultNote then s
  else
    raise .radio (.radioFault cause (s.rad.lastMatch.map fun t => wholeSeconds (s.elapsed - t)))
      { s with rad := { s.rad with faultNote := true } }

/-- The radio controller enters RECOVERING (R146). -/
def enterRecovering (cause : RadioFaultCause) (s : State) : State :=
  reportRadioFault cause
    { s with rad := { s.rad with
        state := .recovering, timeouts := 0, request := false, readyWait := none,
        recoveryTimer := some (s.elapsed + 2000) } }

/-- A modem timeout has ended the send: the count rises, and at 3 the radio recovers (R146, R152). -/
def countModemTimeout (s : State) : State :=
  if 3 ≤ s.rad.timeouts + 1 then enterRecovering .sendTimeout s
  else enterRadioIdle { s with rad := { s.rad with timeouts := s.rad.timeouts + 1 } }

/-- The ready wait has run out: the count rises, and below 3 the wait is started again (R148). -/
def countReadyWait (s : State) : State :=
  if 3 ≤ s.rad.timeouts + 1 then enterRecovering .noReady s
  else
    { s with rad := { s.rad with
        timeouts := s.rad.timeouts + 1, readyWait := some (s.elapsed + 5000) } }

/-- Permission is withdrawn (R148): a send in flight is cut, the waits stop, the request stands. -/
def losePermission (s : State) : State :=
  let s := endSend false s
  { s with rad := { s.rad with
      state := .off, permitted := false, request := true, recoveryTimer := none, readyWait := none } }

/-- The radio controller waits for MODEM_READY in OFF and in RECOVERING (R148). -/
def RadioState.awaitsReady : RadioState → Bool
  | .off => true
  | .recovering => true
  | .idle => false
  | .transmitting => false

/-- Permission is given (R148): the ready wait starts, unless the modem, powered by the rise, has already
said MODEM_READY (log entry 41). -/
def gainPermission (s : State) : State :=
  { s with rad := { s.rad with
      permitted := true,
      readyWait :=
        if s.rad.state.awaitsReady then some (s.elapsed + 5000) else s.rad.readyWait } }

/-- MODEM_READY is taken by the radio state (R148). -/
def takeModemReady (s : State) : State :=
  let s := { s with rad := { s.rad with timeouts := 0 } }
  match s.rad.state with
  | .off => enterRadioIdle { s with rad := { s.rad with readyWait := none } }
  | .recovering => enterRadioIdle { s with rad := { s.rad with readyWait := none } }
  | .idle => s
  | .transmitting => enterRadioIdle (endSend false s)

/-! ## Timers (R149, R153, R157) -/

/-- The refill of the airtime credit, held at the cap (R149). -/
def refillCredit (s : State) : State :=
  { s with rad := { s.rad with
      credit := min s.cfg.radio.cap (s.rad.credit + s.cfg.radio.refill),
      refillTimer := s.rad.refillTimer.map fun d => d + 1000 } }

/-- The most DONE sends of a ROUTINE record (R153). -/
def routineSends : Nat := 3

/-- A record whose acknowledgement wait has run out (R153). -/
def EventRecord.waitOver (r : EventRecord) : EventRecord :=
  if r.cls = .routine ∧ routineSends ≤ r.attempts then { r with radio := .dropped }
  else { r with radio := .pending }

/-- The record awaits an acknowledgement that has not come in time (R153). -/
def EventRecord.overdue (now : Nat) (r : EventRecord) : Bool :=
  decide (r.radio = .awaitingAck) && decide (r.nextTry ≤ now)

/-- The next try time of a record is reached (R153, R150). -/
def ackWaitRunsOut (number : Nat) (s : State) : State :=
  match s.eq.records.find? fun r => decide (r.number = number) with
  | none => s
  | some r =>
    if r.overdue s.elapsed then judgeSend (changeRecord number EventRecord.waitOver s) else s

/-- The status timer is started afresh with the period in force, or stopped for a period of 0 (R157). -/
def freshStatusTimer (s : State) : Option Nat :=
  if s.cfg.radio.statusPeriod = 0 then none else some (s.elapsed + s.cfg.radio.statusPeriod * 1000)

/-- The status timer is auto-reloaded (R157). -/
def reloadStatusTimer (s : State) : State :=
  { s with rad := { s.rad with
      statusTimer := s.rad.statusTimer.map fun d => d + s.cfg.radio.statusPeriod * 1000 } }

/-! ## Modem frames (R145, section 12.2) -/

/-- The framing checks of a modem frame: the length and the CRC-16. -/
def modemFrameGood (kind tag : Byte) (body : List Byte) (crc : Half) : Bool :=
  decide (body.length ≤ 240)
    && (crc16 (BitVec.ofNat 8 body.length :: kind :: tag :: body) == crc)

/-- The send number of a TX_RESULT body and whether its outcome is DONE; `none` for a length that does
not suit the kind or a value that is not listed. -/
def txOutcome : List Byte → Option (Byte × Bool)
  | [number, outcome, reason] =>
    if outcome = 0#8 ∧ reason = 255#8 then some (number, true)
    else if outcome = 1#8 ∧ (reason = 0#8 ∨ reason = 1#8) then some (number, false)
    else none
  | _ => none

/-- A TX_RESULT of this number and outcome: the matching one ends the send (R145, R146, R152). -/
def takeTxResult (number : Byte) (done : Bool) (s : State) : State :=
  match s.rad.send with
  | none => s
  | some x =>
    if x.number = number.toNat then
      enterRadioIdle (endSend done { s with rad := { s.rad with
        timeouts := 0, faultNote := false, lastMatch := some s.elapsed } })
    else s

/-! ## The commands of the master station (R156) -/

/-- The command reaches the part only while the modem is powered (R155). -/
def whenHeard (f : State → State) (s : State) : State := if modemPowered s then f s else s

/-- The record numbers of an ACK body. -/
def ackNumbers : List Byte → List Nat
  | b0 :: b1 :: rest => leValue [b0, b1] :: ackNumbers rest
  | _ => []

/-- The length of an ACK body suits its kind: 1 to 8 numbers of 2 bytes (R156, R178). -/
def ackLengthSuits (body : List Byte) : Bool :=
  decide (body.length % 2 = 0) && decide (2 ≤ body.length) && decide (body.length ≤ 16)

/-- An acknowledgement names a record: PENDING or AWAITING_ACK becomes ACKED (R136). -/
def EventRecord.acknowledge (r : EventRecord) : EventRecord :=
  match r.radio with
  | .pending => { r with radio := .acked }
  | .awaitingAck => { r with radio := .acked }
  | .notForRadio => r
  | .acked => r
  | .dropped => r

/-- Each number is named to the event queue (R156). -/
def acknowledgeAll : List Nat → State → State
  | [], s => s
  | n :: ns, s => acknowledgeAll ns (changeRecord n EventRecord.acknowledge s)

/-- ACK as its body spells it (R156, R178). -/
def takeAck (number : Byte) (body : List Byte) (s : State) : State :=
  if ackLengthSuits body then acknowledgeAll (ackNumbers body) s
  else putSlot 0#8 number .badLength none s

/-- POLL (R156): the OK enters the slot and the STATUS record arrives on one event, and the send order is
judged with both in place (log entry 20). -/
def takePoll (number : Byte) (s : State) : State :=
  judgeSend (takeStatus { s with rad := { s.rad with
    slot := some { command := 1#8, number := number, code := .ok, tags := none, inSend := false } } })

/-- TRIP (R54, R156). -/
def hearTrip (number set : Byte) (s : State) : State :=
  putSlot 2#8 number (takeTripCommand .radio set s).1 none (takeTripCommand .radio set s).2

/-- CLOSE (R55, R156). -/
def hearClose (number set : Byte) (s : State) : State :=
  putSlot 3#8 number (takeCloseCommand .radio set s).1 none (takeCloseCommand .radio set s).2

/-- BLOCK_SET (R93): a placement of REMOTE_BLOCK. -/
def takeBlockSet (number : Byte) (s : State) : State :=
  takePlacement .radio .remoteBlock 0 (.radio 4#8 number) s

/-- BLOCK_CLEAR (R93): a removal of REMOTE_BLOCK. -/
def takeBlockClear (number : Byte) (s : State) : State :=
  takeRemoval .radio .remoteBlock 0 (.radio 5#8 number) s

/-- TIME_SYNC (R13). -/
def takeTimeSync (number : Byte) (seconds : Wide) (word : Half) (s : State) : State :=
  if badClock word then putSlot 6#8 number .badValue none s
  else putSlot 6#8 number .ok none (setClock .radio seconds word s)

/-- TAG_QUERY (R93). -/
def takeTagQuery (number : Byte) (s : State) : State := putSlot 7#8 number .ok (some (tagContent s)) s

/-- A command whose body has another length than its kind's (R156). -/
def badLengthCommand (kind number : Byte) (s : State) : State := putSlot kind number .badLength none s

/-- A command with an empty body. -/
def bareCommand (kind number : Byte) (take : State → State) : List Byte → State → State
  | [] => take
  | _ :: _ => badLengthCommand kind number

/-- A command whose body is a pole set. -/
def setCommand (kind number : Byte) (take : Byte → State → State) : List Byte → State → State
  | [set] => take set
  | _ => badLengthCommand kind number

/-- TIME_SYNC, whose body is a timestamp. -/
def timeCommand (number : Byte) : List Byte → State → State
  | [s0, s1, s2, s3, w0, w1] => takeTimeSync number (s3 ++ s2 ++ s1 ++ s0) (w1 ++ w0)
  | _ => badLengthCommand 6#8 number

/-- A command as its kind, number and body spell it (R155, R156, section 12.3). -/
def takeCommand (kind number : Byte) (body : List Byte) (s : State) : State :=
  match kind.toNat with
  | 0 => takeAck number body s
  | 1 => bareCommand kind number (takePoll number) body s
  | 2 => setCommand kind number (hearTrip number) body s
  | 3 => setCommand kind number (hearClose number) body s
  | 4 => bareCommand kind number (takeBlockSet number) body s
  | 5 => bareCommand kind number (takeBlockClear number) body s
  | 6 => timeCommand number body s
  | 7 => bareCommand kind number (takeTagQuery number) body s
  | _ => putSlot kind number .badKind none s

/-! ## Packets (R155, section 12.3) -/

/-- An over-the-air packet of a length that RX_PACKET can carry (R145): header and CRC of 16 bytes and a
payload of at most 200. -/
def packetLengthSuits (p : List Byte) : Bool := decide (16 ≤ p.length) && decide (p.length ≤ 216)

/-- The packet's CRC-16 matches, over header and payload. -/
def packetCrcGood (p : List Byte) : Bool :=
  leBytes 2 (crc16 (p.take (p.length - 2))).toNat == p.drop (p.length - 2)

/-- The packet is for this part, from the master station. -/
def packetForUs (r : RadioSettings) (p : List Byte) : Bool :=
  decide (leValue (p.take 2) = r.own) && decide (leValue ((p.drop 2).take 2) = r.master)

/-- The payload of a packet. -/
def packetPayload (p : List Byte) : List Byte := (p.drop 14).take (p.length - 16)

/-- A packet heard by the modem (R155). A payload too short to hold a command kind and a command number
carries no command (log entry 21). -/
def takePacket (p : List Byte) (s : State) : State :=
  if packetCrcGood p && packetForUs s.cfg.radio p then
    match packetPayload p with
    | kind :: number :: body => takeCommand kind number body s
    | _ => s
  else s

/-! ## Block restart (R160) -/

/-- The radio controller's working state is reset; without permission it stays OFF with the request
standing. -/
def restartRadio (s : State) : State :=
  let s := endSend false s
  { s with rad := { s.rad with
      state := if s.rad.permitted then .recovering else .off,
      request := !s.rad.permitted, slot := none, credit := 0, timeouts := 0, faultNote := false,
      refillTimer := some (s.elapsed + 1000), statusTimer := freshStatusTimer s, modemTimer := none,
      readyWait := none,
      recoveryTimer := if s.rad.permitted then some (s.elapsed + 2000) else none } }

end Sys2Proof.Machine
end

