-- ==== Sys2Proof/Machine/Radio.lean ====
section
/-! DEFINITION. The commands of the radio controller (chapter 9). -/

namespace Sys2Proof.Machine

/-! ## The modem line (R145 to R148) -/

/-- TX_RESULT (R152). -/
def execTxResult (tag : Byte) (body : List Byte) (crc : Half) : State → Result :=
  whenRunning fun s =>
    if modemFrameGood 0x41#8 tag body crc then
      match txOutcome body with
      | some (number, done) => takeTxResult number done s
      | none => s
    else s

/-- MODEM_TIMEOUT (R146): the send ends as FAIL. -/
def execModemTimeout : State → Result :=
  whenRunning fun s =>
    if due s.rad.modemTimer s && s.rad.send.isSome then countModemTimeout (endSend false s) else s

/-- RECOVERY_TIMER_EXPIRY (R146): modem power is asked for again, and the ready wait starts. -/
def execRecoveryTimerExpiry : State → Result :=
  whenRunning fun s =>
    if due s.rad.recoveryTimer s then
      { s with rad := { s.rad with
          request := true, recoveryTimer := none, readyWait := some (s.elapsed + 5000) } }
    else s

/-- READY_WAIT_EXPIRY (R148). -/
def execReadyWaitExpiry : State → Result :=
  whenRunning fun s => if due s.rad.readyWait s then countReadyWait s else s

/-- MODEM_READY (R148): the body is empty; an unpowered modem's message is stale. -/
def execModemReady (tag : Byte) (body : List Byte) (crc : Half) : State → Result :=
  whenRunning fun s =>
    if modemFrameGood 0x43#8 tag body crc && body.isEmpty && modemPowered s then takeModemReady s
    else s

/-- MODEM_PERMISSION_CHANGE (R148): the oldest change of permission. -/
def execModemPermissionChange : State → Result :=
  whenRunning fun s =>
    match s.mail.permission with
    | [] => s
    | given :: rest =>
      let s := { s with mail := { s.mail with permission := rest } }
      if given then gainPermission s else losePermission s

/-! ## Timers -/

/-- REFILL_TIMER (R149). -/
def execRefillTimer : State → Result :=
  whenRunning fun s => if due s.rad.refillTimer s then judgeSend (refillCredit s) else s

/-- ACK_WAIT_EXPIRY (R153). -/
def execAckWaitExpiry (number : Half) : State → Result := whenRunning (ackWaitRunsOut number.toNat)

/-- STATUS_TIMER (R157): a STATUS record is handed to the event queue. -/
def execStatusTimer : State → Result :=
  whenRunning fun s => if due s.rad.statusTimer s then takeStatus (reloadStatusTimer s) else s

/-! ## Packets and commands (R155, R156) -/

/-- RX_PACKET (R155). -/
def execRxPacket (tag : Byte) (body : List Byte) (crc : Half) : State → Result :=
  whenRunning (whenHeard fun s =>
    if modemFrameGood 0x42#8 tag body crc && packetLengthSuits body then takePacket body s else s)

/-- ACK (R156). -/
def execAck (number : Byte) (body : List Byte) : State → Result :=
  whenRunning (whenHeard (takeAck number body))

/-- POLL (R156). -/
def execPoll (number : Byte) : State → Result := whenRunning (whenHeard (takePoll number))

/-- TRIP_COMMAND (R54). -/
def execTripCommand (number set : Byte) : State → Result :=
  whenRunning (whenHeard (hearTrip number set))

/-- CLOSE_COMMAND (R55). -/
def execCloseCommand (number set : Byte) : State → Result :=
  whenRunning (whenHeard (hearClose number set))

/-- BLOCK_SET (R93). -/
def execBlockSet (number : Byte) : State → Result := whenRunning (whenHeard (takeBlockSet number))

/-- BLOCK_CLEAR (R93). -/
def execBlockClear (number : Byte) : State → Result := whenRunning (whenHeard (takeBlockClear number))

/-- TIME_SYNC (R13). -/
def execTimeSync (number : Byte) (seconds : Wide) (word : Half) : State → Result :=
  whenRunning (whenHeard (takeTimeSync number seconds word))

/-- TAG_QUERY (R93). -/
def execTagQuery (number : Byte) : State → Result := whenRunning (whenHeard (takeTagQuery number))

/-! ## Block restart (R160) -/

/-- The owner's handling of BLOCK_RESTART naming RADIO (R160). -/
def serveRestartRadio (id : Nat) (s : State) : State := answerCode id .ok (restartRadio s)

/-- BLOCK_RESTART_RADIO (R160). -/
def execBlockRestartRadio (tag : Byte) : State → Result :=
  whenRunning (request 26#8 tag serveRestartRadio)

end Sys2Proof.Machine
end

