-- ==== Sys2Proof/Machine/Sequence.lean ====
section
/-! DEFINITION. The commands of the sequence controller but for strokes and contacts (chapter 3):
measurement sets and evaluation results, timers, tag signals, and the commanded trip and close. -/

namespace Sys2Proof.Machine

/-! ## Timing a fault (R39 to R43) -/

/-- The elements up with one element added. -/
def ElementSet.add (e : ElementSet) : ElementId → ElementSet
  | .phase p => { e with phase := e.phase.set p true }
  | .ground => { e with ground := true }
  | .hot p => { e with hot := e.hot.set p true }

/-- The elements up with one element taken away. -/
def ElementSet.drop (e : ElementSet) : ElementId → ElementSet
  | .phase p => { e with phase := e.phase.set p false }
  | .ground => { e with ground := false }
  | .hot p => { e with hot := e.hot.set p false }

/-- The element is up. -/
def ElementSet.has (e : ElementSet) : ElementId → Bool
  | .phase p => e.phase.get p
  | .ground => e.ground
  | .hot p => e.hot.get p

/-- A record enters TIMING on the set of a result (R39). Its peaks are those of the set when the set has
reached the sequence controller, and otherwise start at 0 (R40). -/
def SeqRecord.toTiming (o : TimingOrigin) (m : MeasSet) (reached : Bool) (r : SeqRecord) : SeqRecord :=
  { r with
    state := .timing, timer := none, origin := some o, longest := 0, pickupTime := some m.time,
    pickupSet := m.index, peaks := if reached then m.mag else Quad.all 0,
    peakSat := if reached then m.sat else Quad.all false, capture := none }

/-- A PICKUP reaches a record (R39). -/
def SeqRecord.pickUp (e : ElementId) (m : MeasSet) (reached : Bool) (r : SeqRecord) : SeqRecord :=
  match r.state with
  | .rest => { r.toTiming .rest m reached with up := r.up.add e }
  | .reclaim => { r.toTiming .reclaim m reached with up := r.up.add e }
  | .timing => { r with up := r.up.add e }
  | .tripping => r
  | .deadTime => r
  | .closeWait => r
  | .closing => r
  | .lockout => r

/-- A DROP_OUT reaches a record (R39): one with cause CURRENT may raise the longest pickup. -/
def SeqRecord.dropOut (e : ElementId) (held : Bool) (sets : Nat) (r : SeqRecord) : SeqRecord :=
  { r with
    up := r.up.drop e,
    longest := if held || decide (r.state ≠ .timing) then r.longest else max r.longest sets }

/-- A PICKUP or DROP_OUT entry reaches the records of the poles concerned, in GANGED mode all three
(R39, R50). -/
def takeEntry (m : MeasSet) (reached : Bool) (x : Report) (s : State) : State :=
  match x with
  | .pickup e poles _ => mapRecs (widen s poles) (SeqRecord.pickUp e m reached) s
  | .dropOut e poles held sets => mapRecs (widen s poles) (SeqRecord.dropOut e held sets) s
  | .operate .. => s

/-- Every PICKUP and DROP_OUT entry of a result, in order. -/
def takeEntries (m : MeasSet) (reached : Bool) : List Report → State → State
  | [], s => s
  | x :: xs, s => takeEntries m reached xs (takeEntry m reached x s)

/-- The records that a result has taken into TIMING trigger the capture unit once and store its answer
(R39, R163). -/
def triggerFor (m : MeasSet) (entered : PoleSet) (s : State) : State :=
  if entered.isEmpty then s
  else
    let answer := triggerCapture m.index s
    mapRecs entered (fun r => { r with capture := some answer.1 }) answer.2

/-- The pole set of an OPERATE entry. -/
def Report.tripSet : Report → PoleSet
  | .operate _ _ _ _ trip => trip
  | .pickup .. => Tri.empty
  | .dropOut .. => Tri.empty

/-- A record goes to TRIPPING on an OPERATE (R43). One that was not in TIMING has triggered no capture
for this fault and names none (R35, R41). -/
def SeqRecord.operate (name : OperateName) (op time : Nat) (r : SeqRecord) : SeqRecord :=
  { r with
    state := .tripping, timer := none, up := noElements, origin := none, lastOp := some name,
    trip := some { op := op, name := name, time := time, wait := none }, note := none,
    capture := if r.state = .timing then r.capture else none }

/-- The OPERATE entries of a result (R43); in GANGED mode the set to trip is {A, B, C} (R50). -/
def takeOperates (r : EvalResult) (s : State) : State :=
  match r.leading with
  | none => s
  | some (name, op) =>
    let union := r.entries.foldl (fun u x => u.union x.tripSet) Tri.empty
    let named := if union.isEmpty then union else widen s union
    let moving := named.inter (polesWhere s fun x => x.state.holdsClosed)
    postOperate moving (mapRecs moving (SeqRecord.operate name op r.set.time) s)

/-- A drop-out with cause HELD of an element in a set of elements. -/
def Report.heldDrop (up : ElementSet) : Report → Bool
  | .dropOut e _ held _ => held && up.has e
  | .pickup .. => false
  | .operate .. => false

/-- Sequence coordination applies to a record whose fault has dropped out (R42). `heldDrop` tells
whether a drop-out that emptied its elements up had cause HELD. -/
def coordinates (p : Protection) (heldDrop : Bool) (r : SeqRecord) : Bool :=
  p.coordination && decide ((opSettings p (r.shot + 1)).speed = .fast) && !heldDrop
    && decide (3 ≤ r.longest) && decide (r.shot + 1 < r.lockOps) && decide (r.shot + 2 ≤ 4)
    && decide ((opSettings p (r.shot + 2)).speed = .fast)

/-- A record enters RECLAIM with the full reclaim time, its fault gone: no TRIP event will carry the
capture of that fault (R41, R163). -/
def SeqRecord.toReclaim (now reclaim : Nat) (r : SeqRecord) : SeqRecord :=
  { r with
    state := .reclaim, origin := none, timer := some { kind := .reclaim, deadline := now + reclaim },
    capture := none }

/-- A fault has dropped out without an operation, and no TRIP event will carry its capture (R41,
R163). -/
def SeqRecord.afterDropOut (now reclaim : Nat) (r : SeqRecord) : SeqRecord :=
  match r.origin with
  | some .reclaim => r.toReclaim now reclaim
  | some .rest => { r with state := .rest, origin := none, capture := none }
  | none => { r with state := .rest, origin := none, capture := none }

/-- The drop-outs of a result are judged (R41, R42). `before` gives the elements up before the result. -/
def judgeDropOuts (r : EvalResult) (before : Tri ElementSet) (s : State) : State :=
  let dropped := polesWhere s fun x => decide (x.state = .timing) && x.up.isEmpty
  let held : PoleSet := Tri.of fun p =>
    r.entries.any (Report.heldDrop (before.get p))
  let steps : PoleSet := Tri.of fun p =>
    dropped.get p && coordinates s.cfg.prot (held.get p) (s.seq.recs.get p)
  let s := mapRecs (dropped.diff steps) (SeqRecord.afterDropOut s.elapsed s.cfg.prot.reclaim) s
  let s := mapRecs steps
    (fun x => { x.toReclaim s.elapsed s.cfg.prot.reclaim with shot := x.shot + 1 }) s
  if steps.isEmpty then s
  else
    let shot := agreed (steps.poles.map fun p => (s.seq.recs.get p).shot) s
    match shot.1 with
    | some n => raise .sequence (.coordinationStep steps n) shot.2
    | none => s

/-- An evaluation result is taken (R39): PICKUP and DROP_OUT entries, the trigger, OPERATE entries, the
judgement of drop-outs. -/
def takeResult (r : EvalResult) (s : State) : State :=
  let reached := decide (r.set.index ≤ s.seq.lastSet)
  let before := s.seq.recs.map SeqRecord.up
  let s' := takeEntries r.set reached r.entries s
  let entered : PoleSet := Tri.of fun p =>
    decide ((s.seq.recs.get p).state ≠ .timing) && decide ((s'.seq.recs.get p).state = .timing)
  judgeDropOuts r before (takeOperates r (triggerFor r.set entered s'))

/-- EVALUATION_RESULT (R39): the oldest result handed to the sequence controller. -/
def execEvaluationResult : State → Result :=
  whenRunning fun s =>
    match s.mail.results with
    | [] => s
    | r :: rest => seqEvent (takeResult r) { s with mail := { s.mail with results := rest } }

/-- A record in TIMING takes a set into its peaks, unless the set came before its pickup (R40). -/
def SeqRecord.raisePeaks (m : MeasSet) (r : SeqRecord) : SeqRecord :=
  if r.state = .timing ∧ r.pickupSet ≤ m.index then
    { r with peaks := r.peaks.zip max m.mag, peakSat := r.peakSat.zip or m.sat }
  else r

/-- PEAK_MAGNITUDE_UPDATE (R40): the oldest set handed to the sequence controller. -/
def execPeakMagnitudeUpdate : State → Result :=
  whenRunning fun s =>
    match s.mail.seqSets with
    | [] => s
    | m :: rest =>
      mapRecs Tri.full (SeqRecord.raisePeaks m)
        { s with
          seq := { s.seq with lastSet := m.index },
          mail := { s.mail with seqSets := rest } }

/-! ## Timers (R46, R47, R49) -/

/-- The records of a set that are in a state with its timer expired; in GANGED mode an expiry is taken
by all three (R50). -/
def expired (st : SeqState) (kind : SeqTimerKind) (ps : PoleSet) (s : State) : PoleSet :=
  (if ps.isEmpty then ps else widen s ps).inter
    (polesWhere s fun r => decide (r.state = st) && r.timerDue kind s.elapsed)

/-- A record goes to CLOSE_WAIT at the end of its dead time (R46). -/
def SeqRecord.afterDeadTime (now : Nat) (r : SeqRecord) : SeqRecord :=
  { r with
    state := .closeWait, closeOrigin := some .protection,
    timer := some { kind := .closeWait, deadline := now + 5000 } }

/-- The close requests of R46: one for all in GANGED mode, one for each pole in SINGLE mode. -/
def postCloses (ps : PoleSet) (s : State) : State :=
  match s.cfg.prot.tripMode with
  | .ganged => postClose ps .protection s
  | .single => ps.poles.foldl (fun s p => postClose (Tri.single p) .protection s) s

/-- DEAD_TIME_EXPIRY (R46). -/
def execDeadTimeExpiry (ps : PoleSet) : State → Result :=
  whenRunning (seqEvent fun s =>
    let ending := expired .deadTime .dead ps s
    postCloses ending (mapRecs ending (SeqRecord.afterDeadTime s.elapsed) s))

/-- CLOSE_WAIT_EXPIRY (R47). -/
def execCloseWaitExpiry (ps : PoleSet) : State → Result :=
  whenRunning (seqEvent fun s =>
    lockPoles (lockCause .noEnergy) (expired .closeWait .closeWait ps s) s)

/-- A record goes to REST at the end of its reclaim time (R49). -/
def SeqRecord.forget (r : SeqRecord) : SeqRecord :=
  { r with state := .rest, shot := 0, lastOp := none, timer := none }

/-- The records of some poles are reset, with one SEQUENCE_RESET event (R49). Where their shot counts
differ, the one given is a free choice (log entry 12). -/
def resetRecords (ps : PoleSet) (s : State) : State :=
  let shot := agreed (ps.poles.map fun p => (s.seq.recs.get p).shot) s
  match shot.1 with
  | some n => raise .sequence (.sequenceReset ps n) (mapRecs ps SeqRecord.forget shot.2)
  | none => s

/-- SEQUENCE_RESET (R49). -/
def execSequenceReset (ps : PoleSet) : State → Result :=
  whenRunning (seqEvent fun s => resetRecords (expired .reclaim .reclaim ps s) s)

/-! ## Tag signals (R36, R53) -/

/-- The marks with one kind's mark set to a value. -/
def KindMarks.mark (k : KindMarks) (t : TagKind) (v : Bool) : KindMarks :=
  match t with
  | .hotLine => { k with hotLine := v }
  | .doNotClose => { k with doNotClose := v }
  | .remoteBlock => { k with remoteBlock := v }
  | .systemHold => { k with systemHold := v }

/-- The summary after a signal (R36). -/
def TagSummary.after (t : TagSummary) : TagSignal → TagSummary
  | .inForce k => { t with kinds := t.kinds.mark k true }
  | .removed k left => { t with kinds := t.kinds.mark k (decide (0 < left)) }
  | .holdSet => { t with hold := true }
  | .holdCleared => { t with hold := false }

/-- The summary and the operations to lockout in force after a signal (R36). -/
def summarise (sig : TagSignal) (s : State) : State :=
  applyLockOps { s with seq := { s.seq with summary := s.seq.summary.after sig } }

/-- A signal moves a record that waits to close to LOCKOUT TAG (R53). -/
def tagMoves (sig : TagSignal) (r : SeqRecord) : Bool :=
  match sig with
  | .removed _ _ => false
  | .holdCleared => false
  | .inForce .remoteBlock =>
    decide (r.state = .deadTime)
      || (decide (r.state = .closeWait) && decide (r.closeOrigin ≠ some .commandCabinet))
  | .inForce .hotLine => decide (r.state = .deadTime) || decide (r.state = .closeWait)
  | .inForce .doNotClose => decide (r.state = .deadTime) || decide (r.state = .closeWait)
  | .inForce .systemHold => decide (r.state = .deadTime) || decide (r.state = .closeWait)
  | .holdSet => decide (r.state = .deadTime) || decide (r.state = .closeWait)

/-- A tag signal is taken (R36, R53). -/
def takeTagSignal (sig : TagSignal) (s : State) : State :=
  let s := summarise sig s
  lockPoles (lockCause .tag) (polesWhere s (tagMoves sig)) s

/-- The oldest tag signal handed to the sequence controller has been taken. -/
def popSeqTag (rest : List TagSignal) (s : State) : State :=
  { s with mail := { s.mail with seqTags := rest } }

/-- SEQUENCE_TAG_IN_FORCE (R53): "tag in force" or "hold-pending set". -/
def execSequenceTagInForce : State → Result :=
  whenRunning fun s =>
    match s.mail.seqTags with
    | .inForce k :: rest => seqEvent (takeTagSignal (.inForce k)) (popSeqTag rest s)
    | .holdSet :: rest => seqEvent (takeTagSignal .holdSet) (popSeqTag rest s)
    | .removed _ _ :: _ => s
    | .holdCleared :: _ => s
    | [] => s

/-- SEQUENCE_TAG_REMOVED (R36): "tag removed" or "hold-pending cleared"; no record is moved (R53). -/
def execSequenceTagRemoved : State → Result :=
  whenRunning fun s =>
    match s.mail.seqTags with
    | .removed k left :: rest => summarise (.removed k left) (popSeqTag rest s)
    | .holdCleared :: rest => summarise .holdCleared (popSeqTag rest s)
    | .inForce _ :: _ => s
    | .holdSet :: _ => s
    | [] => s

/-! ## Cabinet commands (R54 to R56) -/

/-- The owner's handling of POLE_TRIP (R54). -/
def servePoleTrip (set : Byte) (id : Nat) (s : State) : State :=
  answerResult id (takeTripCommand .cabinet set s).1 (takeTripCommand .cabinet set s).2

/-- POLE_TRIP (R54). -/
def execPoleTrip (tag set : Byte) : State → Result := whenRunning (request 14#8 tag (servePoleTrip set))

/-- The owner's handling of POLE_CLOSE (R55). -/
def servePoleClose (set : Byte) (id : Nat) (s : State) : State :=
  answerResult id (takeCloseCommand .cabinet set s).1 (takeCloseCommand .cabinet set s).2

/-- POLE_CLOSE (R55). -/
def execPoleClose (tag set : Byte) : State → Result := whenRunning (request 15#8 tag (servePoleClose set))

/-- The owner's handling of STATUS_CLEAR (R56, R174). -/
def serveStatusClear (id : Nat) (s : State) : State :=
  answerCode id .ok { s with seq := { s.seq with blockedSeen := false } }

/-- STATUS_CLEAR (R56, R174). -/
def execStatusClear (tag : Byte) : State → Result := whenRunning (request 2#8 tag serveStatusClear)

end Sys2Proof.Machine
end

