-- ==== Sys2Proof/Machine/Settings.lean ====
section
/-! DEFINITION. The checks of written settings blocks (R16, R17, R19, R62, R79, R105, R158, R167): the
bytes of a block are read into fields, and the first field in error is found. -/

namespace Sys2Proof.Machine

/-! ## Reading fields (section 12.6) -/

/-- Fields of these widths read from bytes. -/
def readFields : List Nat → List Byte → List Nat
  | [], _ => []
  | w :: ws, bytes => leValue (bytes.take w) :: readFields ws (bytes.drop w)

/-- The field of an index. -/
def fieldAt (v : List Nat) (i : Nat) : Nat := v.getD i 0

/-- The widths of the settings of one operation. -/
def opWidths : List Nat := [1, 1, 2, 2, 1, 1, 2, 1]

/-- The widths of the PROTECTION block: 88 bytes. -/
def protectionWidths : List Nat :=
  [2, 2, 2, 1, 1, 2, 4, 4, 4, 4, 1, 1, 4, 2, 2, 2, 2, 2, 2] ++ opWidths ++ opWidths ++ opWidths
    ++ opWidths

/-- The widths of the BATTERY block: 17 bytes. -/
def batteryWidths : List Nat := [2, 2, 2, 2, 2, 1, 2, 2, 2]

/-- The widths of the RADIO block: 21 bytes. -/
def radioWidths : List Nat := [2, 2, 2, 2, 2, 2, 4, 1, 4]

/-- The widths of the CAPTURE block: 3 bytes. -/
def captureWidths : List Nat := [1, 1, 1]

/-- The index of the first field in error. -/
def firstError (errors : List Bool) : Option Nat := errors.findIdx? id

/-- A value outside a range. -/
def outside (lo hi v : Nat) : Bool := decide (v < lo) || decide (hi < v)

/-! ## PROTECTION (R19, R62) -/

/-- The errors of one operation's fields, from this index on. A curve id is in error when it names no
curve, or one that would be empty when the block applies. -/
def opErrors (filled : Nat → Bool) (v : List Nat) (i : Nat) : List Bool :=
  [!filled (fieldAt v i), !filled (fieldAt v (i + 1)), outside 5 1000 (fieldAt v (i + 2)),
    outside 0 2000 (fieldAt v (i + 3)), outside 0 1 (fieldAt v (i + 4)),
    outside 0 1 (fieldAt v (i + 5)), outside 32 640 (fieldAt v (i + 6)),
    outside 0 200 (fieldAt v (i + 7))]

/-- The errors of the levels, fields 13 to 18 (R62). -/
def levelErrors (v : List Nat) : List Bool :=
  [outside 3000 8000 (fieldAt v 13),
    outside 3000 8000 (fieldAt v 14) || decide (fieldAt v 14 < fieldAt v 13),
    outside 3000 8000 (fieldAt v 15) || decide (fieldAt v 15 < fieldAt v 14),
    outside 4600 9600 (fieldAt v 16) || decide (fieldAt v 16 < fieldAt v 13 + 1600),
    outside 4600 9600 (fieldAt v 17) || decide (fieldAt v 17 < fieldAt v 14 + 1600)
      || decide (fieldAt v 17 < fieldAt v 16),
    outside 4600 9600 (fieldAt v 18) || decide (fieldAt v 18 < fieldAt v 15 + 1600)
      || decide (fieldAt v 18 < fieldAt v 17)]

/-- The errors of the 51 fields of the PROTECTION block (R19). -/
def protectionErrors (filled : Nat → Bool) (v : List Nat) : List Bool :=
  [outside 10 1600 (fieldAt v 0), outside 5 800 (fieldAt v 1), outside 10 1600 (fieldAt v 2),
    outside 1 4 (fieldAt v 3), outside 0 1 (fieldAt v 4), outside 100 60000 (fieldAt v 5),
    outside 200 180000 (fieldAt v 6), outside 200 180000 (fieldAt v 7),
    outside 200 180000 (fieldAt v 8), outside 5000 180000 (fieldAt v 9), outside 0 1 (fieldAt v 10),
    outside 0 1 (fieldAt v 11), outside 0 999999 (fieldAt v 12)]
    ++ levelErrors v ++ opErrors filled v 19 ++ opErrors filled v 27 ++ opErrors filled v 35
    ++ opErrors filled v 43

/-- The settings of one operation from its fields. -/
def opOf (v : List Nat) (i : Nat) : OpSettings :=
  { phaseCurve := fieldAt v i, groundCurve := fieldAt v (i + 1), tm := fieldAt v (i + 2),
    adder := fieldAt v (i + 3), speed := if fieldAt v (i + 4) = 0 then .fast else .delayed,
    instOn := decide (fieldAt v (i + 5) = 0), instMult := fieldAt v (i + 6),
    instDelay := fieldAt v (i + 7) }

/-- The PROTECTION block from its fields. -/
def protectionOf (v : List Nat) : Protection :=
  { ip := fieldAt v 0, gp := fieldAt v 1, hotPickup := fieldAt v 2, opsToLockout := fieldAt v 3,
    resetMode := if fieldAt v 4 = 0 then .instant else .decay, resetTime := fieldAt v 5,
    dead1 := fieldAt v 6, dead2 := fieldAt v 7, dead3 := fieldAt v 8, reclaim := fieldAt v 9,
    coordination := decide (fieldAt v 10 = 0),
    tripMode := if fieldAt v 11 = 0 then .ganged else .single, maintenance := fieldAt v 12,
    trip1 := fieldAt v 13, trip2 := fieldAt v 14, trip3 := fieldAt v 15, close1 := fieldAt v 16,
    close2 := fieldAt v 17, close3 := fieldAt v 18, op1 := opOf v 19, op2 := opOf v 27,
    op3 := opOf v 35, op4 := opOf v 43 }

/-- The curve of an id in a list of staged blocks, if one of them holds it. -/
def stagedCurve (n : Nat) : List BlockContent → Option Curve
  | [] => none
  | .curve m c :: rest => if m.val = n then some c else stagedCurve n rest
  | .protection _ :: rest => stagedCurve n rest
  | .battery _ :: rest => stagedCurve n rest
  | .radio _ :: rest => stagedCurve n rest
  | .roster _ :: rest => stagedCurve n rest
  | .capture _ :: rest => stagedCurve n rest

/-- The entries ahead of the place a block takes in the FIFO: its own entry's, or the tail (R19). -/
def aheadOf (b : BlockName) : List BlockContent → List BlockContent
  | [] => []
  | c :: rest => if c.name = b then [] else c :: aheadOf b rest

/-- A curve id names a curve that would not be empty when a PROTECTION block written now applies (R19). -/
def curveFilled (cfg : InForce) (fifo : List BlockContent) (n : Nat) : Bool :=
  decide (n < 12)
    && !((stagedCurve n (aheadOf .protection fifo)).getD ((cfg.curves[n]?).getD [])).isEmpty

/-! ## CURVE (R16, R17) -/

/-- The points of a CURVE block. -/
def readPoints : Nat → List Byte → Curve
  | 0, _ => []
  | n + 1, bytes =>
    { m16 := leValue (bytes.take 2), t := leValue ((bytes.drop 2).take 4) }
      :: readPoints n (bytes.drop 6)

/-- A point is out of its ranges (R16). -/
def pointBad (p : CurvePoint) : Bool := outside 16 640 p.m16 || outside 10 600000 p.t

/-- The errors of the points after the first, each against the one before it (R16). -/
def pointErrors (before : CurvePoint) : Curve → List Bool
  | [] => []
  | p :: ps =>
    (pointBad p || decide (p.m16 ≤ before.m16) || decide (before.t < p.t)) :: pointErrors p ps

/-- The errors of the points of a curve, point 1 first. -/
def curveErrors : Curve → List Bool
  | [] => []
  | p :: ps => pointBad p :: pointErrors p ps

/-- A PROTECTION block names a curve for some operation (R17). -/
def namesCurve (p : Protection) (n : Nat) : Bool :=
  [p.op1, p.op2, p.op3, p.op4].any fun o =>
    decide (o.phaseCurve = n) || decide (o.groundCurve = n)

/-- A staged block is a PROTECTION block that names a curve. -/
def BlockContent.names (n : Nat) : BlockContent → Bool
  | .protection p => namesCurve p n
  | .curve _ _ => false
  | .battery _ => false
  | .radio _ => false
  | .roster _ => false
  | .capture _ => false

/-- The curve may not be emptied (R17). -/
def curveNamed (cfg : InForce) (fifo : List BlockContent) (n : Nat) : Bool :=
  namesCurve cfg.prot n || fifo.any (BlockContent.names n)

/-- The first field of a CURVE block in error (R16, R17). -/
def curveError (named : Bool) (count : Nat) (c : Curve) : Option Nat :=
  firstError ((decide (count = 1) || decide (20 < count) || (decide (count = 0) && named)) :: curveErrors c)

/-! ## BATTERY, RADIO, ROSTER, CAPTURE (R105, R158, R79, R167) -/

/-- The errors of the BATTERY block's fields (R105). -/
def batteryErrors (v : List Nat) : List Bool :=
  [outside 2640 2760 (fieldAt v 0), outside 2760 2940 (fieldAt v 1), outside 50 1000 (fieldAt v 2),
    outside 30 480 (fieldAt v 3), outside 10 200 (fieldAt v 4), outside 0 60 (fieldAt v 5),
    outside 0 720 (fieldAt v 6), outside 20 500 (fieldAt v 7), outside 2100 2400 (fieldAt v 8)]

/-- The BATTERY block from its fields. -/
def batteryOf (v : List Nat) : BatterySettings :=
  { float25 := fieldAt v 0, absorb25 := fieldAt v 1, bulk := fieldAt v 2, absorbMin := fieldAt v 3,
    tail := fieldAt v 4, k := fieldAt v 5, testPeriod := fieldAt v 6, rLimit := fieldAt v 7,
    vMin := fieldAt v 8 }

/-- The RADIO block from its fields. -/
def radioOf (v : List Nat) : RadioSettings :=
  { own := fieldAt v 0, master := fieldAt v 1, bitRate := fieldAt v 2, keyOverhead := fieldAt v 3,
    refill := fieldAt v 4, cap := fieldAt v 5, statusPeriod := fieldAt v 6, ackBase := fieldAt v 7,
    filter := fieldAt v 8 }

/-- The listed bit rates (section 9.8). -/
def bitRates : List Nat := [1200, 2400, 4800, 9600, 19200]

/-- The errors of the RADIO block's fields (R158): the master address equal to the own, and a cap below
the cost of the longest packet, are errors at their fields. -/
def radioErrors (r : RadioSettings) : List Bool :=
  [outside 1 65534 r.own, outside 1 65534 r.master || decide (r.master = r.own),
    !decide (r.bitRate ∈ bitRates), outside 20 500 r.keyOverhead, outside 0 1000 r.refill,
    outside 1000 60000 r.cap || decide (r.cap < packetCost r 200),
    decide (r.statusPeriod ≠ 0) && outside 60 86400 r.statusPeriod, outside 2 60 r.ackBase,
    decide (2 ^ 25 ≤ r.filter)]

/-- The entries of a ROSTER block as code and flag byte. -/
def readRoster : Nat → List Byte → List (Nat × Nat)
  | 0, _ => []
  | n + 1, bytes => (leValue (bytes.take 2), leValue ((bytes.drop 2).take 1)) :: readRoster n (bytes.drop 3)

/-- The errors of the entries, given the codes before them (R79). -/
def rosterErrors (before : List Nat) : List (Nat × Nat) → List Bool
  | [] => []
  | e :: es =>
    (outside 1 9999 e.1 || outside 0 1 e.2 || decide (e.1 ∈ before)) :: rosterErrors (e.1 :: before) es

/-- The roster of the entries. -/
def rosterOf (l : List (Nat × Nat)) : List RosterEntry :=
  l.map fun e => { code := e.1, supervisor := decide (e.2 = 1) }

/-- The CAPTURE block from its fields. -/
def captureOf (v : List Nat) : CaptureSettings :=
  { segments := fieldAt v 0, pre := fieldAt v 1, post := fieldAt v 2 }

/-- The errors of the CAPTURE block's fields, against the segment size of the count written (R167). -/
def captureErrors (c : CaptureSettings) : List Bool :=
  let size := 512 / c.segments
  [decide (c.segments ≠ 2) && decide (c.segments ≠ 4), outside 8 (size - 8) c.pre,
    outside 8 (size - c.pre) c.post]

/-! ## The block as a whole (R170 step 5, R175 step 4) -/

/-- The count byte of a CURVE or ROSTER block. -/
def countByte (bytes : List Byte) : Nat := leValue (bytes.take 1)

/-- The length of the content suits the block named, and for CURVE and ROSTER the count it carries. -/
def lengthSuits (b : BlockName) (bytes : List Byte) : Bool :=
  match b with
  | .protection => decide (bytes.length = 88)
  | .curve _ => decide (bytes.length = 1 + 6 * countByte bytes)
  | .battery => decide (bytes.length = 17)
  | .radio => decide (bytes.length = 21)
  | .roster => decide (bytes.length = 1 + 3 * countByte bytes)
  | .capture => decide (bytes.length = 3)

/-- What the check of a block's content finds. -/
inductive Checked where
  | bad (index : Nat)
  | good (content : BlockContent)
  deriving DecidableEq, Repr

/-- The content, unless a field is in error. -/
def checkedBy (error : Option Nat) (c : BlockContent) : Checked :=
  match error with
  | some i => .bad i
  | none => .good c

/-- The check of a block's content by its owner's rule (R175 step 4). -/
def checkBlock (cfg : InForce) (fifo : List BlockContent) (b : BlockName) (bytes : List Byte) : Checked :=
  match b with
  | .protection =>
    let v := readFields protectionWidths bytes
    checkedBy (firstError (protectionErrors (curveFilled cfg fifo) v)) (.protection (protectionOf v))
  | .curve n =>
    let c := readPoints (countByte bytes) (bytes.drop 1)
    checkedBy (curveError (curveNamed cfg fifo n.val) (countByte bytes) c) (.curve n c)
  | .battery =>
    let v := readFields batteryWidths bytes
    checkedBy (firstError (batteryErrors v)) (.battery (batteryOf v))
  | .radio =>
    let r := radioOf (readFields radioWidths bytes)
    checkedBy (firstError (radioErrors r)) (.radio r)
  | .roster =>
    let l := readRoster (countByte bytes) (bytes.drop 1)
    checkedBy (firstError (decide (32 < countByte bytes) :: rosterErrors [] l)) (.roster (rosterOf l))
  | .capture =>
    let c := captureOf (readFields captureWidths bytes)
    checkedBy (firstError (captureErrors c)) (.capture c)

end Sys2Proof.Machine
end

