-- ==== Sys2Proof/Machine/Stager.lean ====
section
/-! DEFINITION. The stager (section 11.4): the staging FIFO, the apply of its head, and its requests. -/

namespace Sys2Proof.Machine

/-! ## Applying (R176) -/

/-- The apply point of a block holds, by the last notices taken (R176). -/
def applyPoint (g : Stager) : BlockName → Bool
  | .protection => g.atRest
  | .curve _ => g.atRest
  | .capture => g.atRest
  | .battery => !g.testRunning
  | .radio => !g.transmitting
  | .roster => true

/-- The head applies when its apply point holds by the last notice taken (R176). R158 adds for RADIO that
an apply that meets a send already started waits for "not transmitting": the notice of that send may still
be on its way (DEDUCED, log entry 74). -/
def mayApply (s : State) (b : BlockName) : Bool :=
  applyPoint s.stage b && !(decide (b = .radio) && decide (s.rad.state = .transmitting))

/-- A PROTECTION block takes effect (R20, R36, R52, R62). -/
def applyProtection (oldMode : TripMode) (s : State) : State :=
  judgeArbiter (seqEvent (fun s => changeTripMode oldMode (applyLockOps s)) (clearElements s))

/-- A RADIO block takes effect (R149, R157, R158): the cap holds the credit, a changed status period
restarts the status timer, and the send order is judged. -/
def applyRadio (oldPeriod : Nat) (s : State) : State :=
  let period := s.cfg.radio.statusPeriod
  let s := holdCredit s
  judgeSend { s with rad := { s.rad with
    statusTimer :=
      if period = oldPeriod then s.rad.statusTimer
      else if period = 0 then none
      else some (s.elapsed + period * 1000) } }

/-- A CAPTURE block takes effect (R167): a changed segment count clears every segment. -/
def applyCapture (oldCount : Nat) (s : State) : State :=
  if s.cfg.capture.segments = oldCount then s else clearCaptures s.cfg.capture.segments s

/-- A block that has been put in force is taken by its owner, given the settings it replaced. -/
def takeApplied (old : InForce) (b : BlockName) (s : State) : State :=
  match b with
  | .protection => applyProtection old.prot.tripMode s
  | .curve _ => clearElements s
  | .battery => applyBattery old.battery.testPeriod s
  | .radio => applyRadio old.radio.statusPeriod s
  | .roster => s
  | .capture => applyCapture old.capture.segments s

/-- One block applies, in the order of R176: in force, out of the FIFO, to the settings store,
SETTINGS_APPLIED as event and as flag. -/
def applyBlock (c : BlockContent) (rest : List BlockContent) (s : State) : State :=
  let old := s.cfg
  let s := takeApplied old c.name { s with cfg := putInForce old c }
  let s := requestSettingsWrite c.name { s with stage := { s.stage with fifo := rest } }
  flagSettingsApplied (raise .stager (.settingsApplied c.name) s)

/-- The head is judged, and after an apply the new head (R176). -/
def judgeHeads : Nat → State → State
  | 0, s => s
  | n + 1, s =>
    match s.stage.fifo with
    | [] => s
    | c :: rest => if mayApply s c.name then judgeHeads n (applyBlock c rest s) else s

/-- The head of the FIFO is judged for its apply. -/
def judgeHead (s : State) : State := judgeHeads s.stage.fifo.length s

/-! ## Notices (R176) -/

/-- The oldest notice of a block is taken. -/
def takeNotice (source : NoticeSource) (s : State) : State :=
  match source with
  | .sequence =>
    match s.mail.stageRest with
    | [] => s
    | b :: rest =>
      judgeHead
        { s with mail := { s.mail with stageRest := rest }, stage := { s.stage with atRest := b } }
  | .battery =>
    match s.mail.stageTest with
    | [] => s
    | b :: rest =>
      judgeHead
        { s with mail := { s.mail with stageTest := rest }, stage := { s.stage with testRunning := b } }
  | .radio =>
    match s.mail.stageRadio with
    | [] => s
    | b :: rest =>
      judgeHead
        { s with mail := { s.mail with stageRadio := rest }, stage := { s.stage with transmitting := b } }

/-- STAGER_NOTICE (R176). -/
def execStagerNotice (source : NoticeSource) : State → Result := whenRunning (takeNotice source)

/-! ## Requests (R175, R177) -/

/-- The depth of the staging FIFO (R175). -/
def stageDepth : Nat := 2

/-- The FIFO holds an entry for a block. -/
def staged (b : BlockName) (fifo : List BlockContent) : Bool :=
  fifo.any fun c => decide (c.name = b)

/-- The FIFO after an accepted write: the entry replaced in its place, or the block at the tail. -/
def stageBlock (c : BlockContent) (fifo : List BlockContent) : List BlockContent :=
  if staged c.name fifo then fifo.map fun x => if x.name = c.name then c else x else fifo ++ [c]

/-- The owner's handling of SETTINGS_WRITE for a block named and of its length (R175). -/
def writeBlock (b : BlockName) (bytes : List Byte) (id : Nat) (s : State) : State :=
  if !staged b s.stage.fifo && decide (stageDepth ≤ s.stage.fifo.length) then
    answerCode id .stageFull s
  else
    match checkBlock s.cfg s.stage.fifo b bytes with
    | .bad i => answerBadValue id (some i) s
    | .good c =>
      judgeHead
        (answerCode id .ok { s with stage := { s.stage with fifo := stageBlock c s.stage.fifo } })

/-- The dispatch of a SETTINGS_WRITE: a name or id out of range skips the length check (R180). -/
def settingsWriteDispatch (block curve : Byte) (bytes : List Byte) : Dispatch :=
  match blockOf block curve with
  | none => .serve (fun id => answerCode id .badIndex)
  | some b => if lengthSuits b bytes then .serve (writeBlock b bytes) else .refuse .badLength

/-- SETTINGS_WRITE (R175). -/
def execSettingsWrite (tag block curve : Byte) (content : List Byte) : State → Result :=
  whenRunning (takeFrame 7#8 tag (settingsWriteDispatch block curve content))

/-- The content of a settings read: the staged content, or the content in force (R177). -/
def readSettings (b : BlockName) (s : State) : ReplyContent :=
  match s.stage.fifo.find? fun c => decide (c.name = b) with
  | some c => .settings true c
  | none => .settings false (contentInForce s.cfg b)

/-- The owner's handling of SETTINGS_READ (R177). -/
def serveSettingsRead (block curve : Byte) (id : Nat) (s : State) : State :=
  match blockOf block curve with
  | none => answerCode id .badIndex s
  | some b => answer id .ok (readSettings b s) s

/-- SETTINGS_READ (R177). -/
def execSettingsRead (tag block curve : Byte) : State → Result :=
  whenRunning (request 8#8 tag (serveSettingsRead block curve))

/-- The owner's handling of STAGE_GET (R177). -/
def serveStageGet (id : Nat) (s : State) : State :=
  answer id .ok
    (.stage (s.stage.fifo.map fun c => { block := c.name, holds := applyPoint s.stage c.name })) s

/-- STAGE_GET (R177). -/
def execStageGet (tag : Byte) : State → Result := whenRunning (request 9#8 tag serveStageGet)

/-- The owner's handling of STAGE_DISCARD (R177). -/
def serveStageDiscard (id : Nat) (s : State) : State :=
  answer id .ok (.discarded s.stage.fifo.length) { s with stage := { s.stage with fifo := [] } }

/-- STAGE_DISCARD (R177). -/
def execStageDiscard (tag : Byte) : State → Result := whenRunning (request 10#8 tag serveStageDiscard)

end Sys2Proof.Machine
end

