-- ==== Sys2Proof/Machine/Tags.lean ====
section
/-! DEFINITION. The tag requests of the cabinet (R92). -/

namespace Sys2Proof.Machine

/-- The owner's handling of TAG_PLACE (R92). -/
def serveTagPlace (kind : Byte) (crew : Half) (id : Nat) (s : State) : State :=
  match tagKindOf kind with
  | none => answerBadValue id none s
  | some k => takePlacement .cabinet k crew.toNat (.cabinet id) s

/-- TAG_PLACE (R92). -/
def execTagPlace (tag kind : Byte) (crew : Half) : State → Result :=
  whenRunning (request 11#8 tag (serveTagPlace kind crew))

/-- The owner's handling of TAG_REMOVE (R92). -/
def serveTagRemove (kind : Byte) (crew : Half) (id : Nat) (s : State) : State :=
  match tagKindOf kind with
  | none => answerBadValue id none s
  | some k => takeRemoval .cabinet k crew.toNat (.cabinet id) s

/-- TAG_REMOVE (R92). -/
def execTagRemove (tag kind : Byte) (crew : Half) : State → Result :=
  whenRunning (request 12#8 tag (serveTagRemove kind crew))

/-- The owner's handling of TAG_LIST (R92). -/
def serveTagList (id : Nat) (s : State) : State :=
  answer id .ok (.tags (tagContent s).1 (tagContent s).2) s

/-- TAG_LIST (R92). -/
def execTagList (tag : Byte) : State → Result := whenRunning (request 13#8 tag serveTagList)

end Sys2Proof.Machine
end

