-- ==== Sys2Proof/Machine/CabinetOps.lean ====
section
/-! DEFINITION. The cabinet link controller (sections 11.1 and 11.2): its own requests, the table of the
request kinds, and the receiver. -/

namespace Sys2Proof.Machine

/-! ## Attention requests (R172) -/

/-- The owner's handling of ATTN_GET. -/
def serveAttnGet (id : Nat) (s : State) : State := answer id .ok (.attention s.cab.flags s.cab.mask) s

/-- The owner's handling of ATTN_CLEAR: bit 7 names a flag outside the seven (R180). -/
def serveAttnClear (flags : Byte) (id : Nat) (s : State) : State :=
  if flags.msb then answerBadValue id none s
  else answerCode id .ok (setFlags (fun f => f.without (AttnFlags.ofByte flags)) s)

/-- The owner's handling of ATTN_MASK. -/
def serveAttnMask (mask : Byte) (id : Nat) (s : State) : State :=
  if mask.msb then answerBadValue id none s
  else answerCode id .ok { s with cab := { s.cab with mask := AttnFlags.ofByte mask } }

/-- The owner's handling of STATUS_GET (R174). -/
def serveStatusGet (id : Nat) (s : State) : State := answer id .ok (.status (statusContent s) s.clock) s

/-! ## The kinds (R170 steps 4 to 6, section 12.2) -/

/-- A request with an empty body. -/
def noBody (owner : Nat → State → State) : List Byte → Dispatch
  | [] => .serve owner
  | _ :: _ => .refuse .badLength

/-- A request with a body of one byte. -/
def oneByte (owner : Byte → Nat → State → State) : List Byte → Dispatch
  | [b] => .serve (owner b)
  | _ => .refuse .badLength

/-- A request with a body of a byte and a two-byte field. -/
def byteHalf (owner : Byte → Half → Nat → State → State) : List Byte → Dispatch
  | [k, c0, c1] => .serve (owner k (c1 ++ c0))
  | _ => .refuse .badLength

/-- TIME_SET: a timestamp. -/
def timeBody : List Byte → Dispatch
  | [s0, s1, s2, s3, w0, w1] => .serve (serveTimeSet (s3 ++ s2 ++ s1 ++ s0) (w1 ++ w0))
  | _ => .refuse .badLength

/-- COUNTER_SET: a pole and a value. -/
def counterBody : List Byte → Dispatch
  | [p, v0, v1, v2, v3] => .serve (serveCounterSet p (v3 ++ v2 ++ v1 ++ v0))
  | _ => .refuse .badLength

/-- CAPTURE_READ: a capture id and a start index. -/
def captureBody : List Byte → Dispatch
  | [i0, i1, n0, n1] => .serve (serveCaptureRead (i1 ++ i0) (n1 ++ n0))
  | _ => .refuse .badLength

/-- CAPTURE_RELEASE: a capture id. -/
def releaseBody : List Byte → Dispatch
  | [i0, i1] => .serve (serveCaptureRelease (i1 ++ i0))
  | _ => .refuse .badLength

/-- SETTINGS_WRITE: block name, curve id, content. A name out of its range skips the length check also
where no curve id follows it (R180, log entry 61). -/
def writeBody : List Byte → Dispatch
  | block :: curve :: content => settingsWriteDispatch block curve content
  | [block] =>
    if 5 < block.toNat then .serve (fun id => answerCode id .badIndex) else .refuse .badLength
  | [] => .refuse .badLength

/-- SETTINGS_READ: block name, curve id. -/
def readBody : List Byte → Dispatch
  | [block, curve] => .serve (serveSettingsRead block curve)
  | _ => .refuse .badLength

/-- The owner's handling of BLOCK_RESTART (R131): any other name is BAD_INDEX. -/
def serveBlockRestart (name : Byte) (id : Nat) (s : State) : State :=
  match name.toNat with
  | 0 => serveRestartRadio id s
  | 1 => serveRestartOptical id s
  | 2 => serveRestartCapture id s
  | 3 => serveRestartTest id s
  | _ => answerCode id .badIndex s

/-- The kind and length steps of R170 for a frame, with the owner of a request that passes them. -/
def frameDispatch (kind : Byte) (body : List Byte) : Dispatch :=
  match kind.toNat with
  | 1 => noBody serveStatusGet body
  | 2 => noBody serveStatusClear body
  | 3 => oneByte serveEventFetch body
  | 4 => noBody serveAttnGet body
  | 5 => oneByte serveAttnClear body
  | 6 => oneByte serveAttnMask body
  | 7 => writeBody body
  | 8 => readBody body
  | 9 => noBody serveStageGet body
  | 10 => noBody serveStageDiscard body
  | 11 => byteHalf serveTagPlace body
  | 12 => byteHalf serveTagRemove body
  | 13 => noBody serveTagList body
  | 14 => oneByte servePoleTrip body
  | 15 => oneByte servePoleClose body
  | 16 => oneByte servePoleFailClear body
  | 17 => timeBody body
  | 18 => noBody serveCounterRead body
  | 19 => counterBody body
  | 20 => noBody serveTestStart body
  | 21 => noBody serveResultGet body
  | 22 => noBody serveCaptureList body
  | 23 => captureBody body
  | 24 => noBody serveCaptureReadNext body
  | 25 => releaseBody body
  | 26 => oneByte serveBlockRestart body
  | _ => .refuse .badKind

/-! ## The receiver (R169) -/

/-- The open frame is dropped with LINK_ERROR. -/
def dropFrame (s : State) : State :=
  flagLinkError { s with cab := { s.cab with openBytes := [] } }

/-- A gap of more than 10 ms has passed in an open frame. -/
def frameGap (s : State) : Bool :=
  !s.cab.openBytes.isEmpty && decide (s.cab.lastByte + 10 < s.elapsed)

/-- A whole frame: its CRC-16 is checked, and it is taken (R169, R170). -/
def closeFrame (bytes : List Byte) (s : State) : State :=
  match bytes with
  | _ :: len :: kind :: tag :: rest =>
    let body := rest.take len.toNat
    if leBytes 2 (crc16 (len :: kind :: tag :: body)).toNat = rest.drop len.toNat then
      takeFrame kind tag (frameDispatch kind body) { s with cab := { s.cab with openBytes := [] } }
    else dropFrame s
  | _ => dropFrame s

/-- The bytes of the open frame are judged: the length above 240 drops it, the last CRC byte closes it. -/
def judgeFrame (s : State) : State :=
  match s.cab.openBytes with
  | _ :: len :: rest =>
    if 240 < len.toNat then dropFrame s
    else if len.toNat + 4 ≤ rest.length then closeFrame s.cab.openBytes s
    else s
  | _ => s

/-- One byte reaches the receiver. -/
def cabinetByte (b : Byte) (s : State) : State :=
  let s := if frameGap s then dropFrame s else s
  match s.cab.openBytes with
  | [] =>
    if b = 0xC3#8 then { s with cab := { s.cab with openBytes := [b], lastByte := s.elapsed } } else s
  | held => judgeFrame { s with cab := { s.cab with openBytes := held ++ [b], lastByte := s.elapsed } }

/-- Bytes reach the receiver one after the other. -/
def cabinetBytes : List Byte → State → State
  | [], s => s
  | b :: bs, s => cabinetBytes bs (cabinetByte b s)

/-! ## Cabinet power (R171) -/

/-- "cabinet power off" is taken: a waiting fetch ends with no reply, the open frame is discarded, an
owed reply is abandoned. -/
def takePowerOff (s : State) : State :=
  { s with
    eq := { s.eq with fetch := none },
    cab := { s.cab with openBytes := [], owed := none, powered := false } }

/-- "cabinet power on" is taken. -/
def takePowerOn (s : State) : State := { s with cab := { s.cab with powered := true } }

end Sys2Proof.Machine
end

