-- ==== Sys2Proof/Machine/Cabinet.lean ====
section
/-! DEFINITION. The commands of the cabinet link controller (sections 11.1 to 11.3). -/

namespace Sys2Proof.Machine

/-- REQUEST_FRAME (R170): bytes reach the cabinet receiver up to the close of a frame, which is taken. -/
def execRequestFrame (bytes : List Byte) : State → Result := whenRunning (cabinetBytes bytes)

/-- CABINET_FRAME_DROPPED (R169): bytes reach the cabinet receiver up to the drop of a frame. -/
def execCabinetFrameDropped (bytes : List Byte) : State → Result := whenRunning (cabinetBytes bytes)

/-- CABINET_FRAME_GAP (R169): an open frame is dropped once more than 10 ms have passed without a byte. -/
def execCabinetFrameGap : State → Result :=
  whenRunning fun s => if frameGap s then dropFrame s else s

/-- CABINET_POWER_OFF (R171): the oldest notice of the battery manager, "cabinet power off". -/
def execCabinetPowerOff : State → Result :=
  whenRunning fun s =>
    match s.mail.cabinetPower with
    | false :: rest => takePowerOff { s with mail := { s.mail with cabinetPower := rest } }
    | true :: _ => s
    | [] => s

/-- CABINET_POWER_ON (R171): the oldest notice of the battery manager, "cabinet power on". -/
def execCabinetPowerOn : State → Result :=
  whenRunning fun s =>
    match s.mail.cabinetPower with
    | true :: rest => takePowerOn { s with mail := { s.mail with cabinetPower := rest } }
    | false :: _ => s
    | [] => s

/-- ATTN_GET (R172). -/
def execAttnGet (tag : Byte) : State → Result := whenRunning (request 4#8 tag serveAttnGet)

/-- ATTN_CLEAR (R172). -/
def execAttnClear (tag flags : Byte) : State → Result :=
  whenRunning (request 5#8 tag (serveAttnClear flags))

/-- ATTN_MASK (R172). -/
def execAttnMask (tag mask : Byte) : State → Result :=
  whenRunning (request 6#8 tag (serveAttnMask mask))

/-- STATUS_GET (R174). -/
def execStatusGet (tag : Byte) : State → Result := whenRunning (request 1#8 tag serveStatusGet)

end Sys2Proof.Machine
end

