-- ==== Sys2Proof/Machine/SequenceStrokes.lean ====
section
/-! DEFINITION. The commands of the sequence controller that strokes, the lever and the contacts bring
(chapter 3): grants, results, refusals, lever changes and pole-state changes. -/

namespace Sys2Proof.Machine

/-- The oldest message of the actuator and energy unit has been taken. -/
def popStroke (rest : List StrokeMsg) (s : State) : State :=
  { s with mail := { s.mail with strokes := rest } }

/-! ## Grants and refusals (R44, R47) -/

/-- The energy wait of the first grant is kept with the trip in hand (R44). -/
def SeqRecord.grantTrip (wait : Nat) (r : SeqRecord) : SeqRecord :=
  { r with trip := r.trip.map fun t => { t with wait := some (t.wait.getD wait) } }

/-- A granted close reaches a record (R47): from CLOSE_WAIT, or late from LOCKOUT NO_ENERGY, it goes to
CLOSING; a LOCKOUT with any other cause is kept and marked. -/
def SeqRecord.grantClose (r : SeqRecord) : SeqRecord :=
  match r.state with
  | .closeWait => { r with state := .closing, timer := none }
  | .lockout =>
    if r.cause = some .noEnergy then { r with state := .closing, timer := none, cause := none }
    else { r with tripAfter := some .threePole }
  | .rest => r
  | .timing => r
  | .tripping => r
  | .deadTime => r
  | .closing => r
  | .reclaim => r

/-- The record goes to CLOSING when its close is granted (R47). -/
def SeqRecord.closesOnGrant (r : SeqRecord) : Bool :=
  decide (r.state = .closeWait) || (decide (r.state = .lockout) && decide (r.cause = some .noEnergy))

/-- A record that goes to CLOSING with the records of the granted close (R50). -/
def SeqRecord.joinClosing (o : Option CloseOrigin) (r : SeqRecord) : SeqRecord :=
  { r with state := .closing, timer := none, cause := none, closeOrigin := o }

/-- A granted close (R47). In GANGED mode, once one record goes to CLOSING all three do, with its close
origin (R50, log entry 59). -/
def takeCloseGrant (poles : PoleSet) (s : State) : State :=
  let moving := poles.inter (polesWhere s SeqRecord.closesOnGrant)
  let origin := (moving.poles.map fun p => (s.seq.recs.get p).closeOrigin).head?
  match s.cfg.prot.tripMode, origin with
  | .ganged, some o => mapRecs Tri.full (SeqRecord.joinClosing o) s
  | .ganged, none => mapRecs poles SeqRecord.grantClose s
  | .single, _ => mapRecs poles SeqRecord.grantClose s

/-- A grant notice is taken (R44, R47). -/
def takeGrant (g : Grant) (s : State) : State :=
  match g.kind with
  | .trip => mapRecs g.poles (SeqRecord.grantTrip g.wait) s
  | .close => takeCloseGrant g.poles s

/-- GRANT_NOTICE (R47). -/
def execGrantNotice : State → Result :=
  whenRunning fun s =>
    match s.mail.strokes with
    | .grant g :: rest => seqEvent (takeGrant g) (popStroke rest s)
    | .result _ :: _ => s
    | .refusal _ _ :: _ => s
    | [] => s

/-- The lockout cause a refused close brings (R47). -/
def refusalCause : RefusalReason → LockoutCause
  | .tag => .tag
  | .holdover => .noEnergy
  | .tripWaiting => .noEnergy
  | .failed => .noEnergy
  | .queueFull => .noEnergy
  | .displaced => .noEnergy

/-- A refusal is taken (R47): the records of the request in CLOSE_WAIT lock out, in GANGED mode all
three (R50). -/
def takeRefusal (poles : PoleSet) (reason : RefusalReason) (s : State) : State :=
  lockPoles (lockCause (refusalCause reason))
    ((widen s poles).inter (polesWhere s fun r => decide (r.state = .closeWait))) s

/-- CLOSE_REFUSAL (R47). -/
def execCloseRefusal : State → Result :=
  whenRunning fun s =>
    match s.mail.strokes with
    | .refusal poles reason :: rest => seqEvent (takeRefusal poles reason) (popStroke rest s)
    | .grant _ :: _ => s
    | .result _ :: _ => s
    | [] => s

/-! ## Trip results (R44, R45) -/

/-- The dead time numbered by a shot count (R44). -/
def deadTime (p : Protection) (shot : Nat) : Nat :=
  match shot with
  | 0 => p.dead1
  | 1 => p.dead1
  | 2 => p.dead2
  | _ => p.dead3

/-- A record goes to DEAD_TIME (R44). -/
def SeqRecord.toDeadTime (p : Protection) (now : Nat) (r : SeqRecord) : SeqRecord :=
  { r with
    state := .deadTime, timer := some { kind := .dead, deadline := now + deadTime p r.shot } }

/-- A trip without an outcome note locks out: the shot count, already risen, has reached the operations
to lockout in force, or a closing block is in force (R44). -/
def locksOut (s : State) (r : SeqRecord) : Bool :=
  decide (r.lockOps ≤ r.shot) || closingBlock s.seq.summary

/-- The lockout that an opened pole brings its record, if any (R44). -/
def openedEntry (s : State) (r : SeqRecord) : Option LockEntry :=
  match r.note with
  | some (.command src) => some { cause := .command, source := some src }
  | some .externalOpen => some (lockCause .externalOpen)
  | none => if locksOut s r then some (lockCause .protection) else none

/-- The records in TRIPPING whose poles opened (R44); in GANGED mode all three are taken together
(R50). The records of the `lost` poles enter LOCKOUT FAIL_TO_OPEN on the same event, whatever their
outcome notes (R45). Where in SINGLE mode one record of a result locks out and another would go to DEAD_TIME,
no rule orders them: DESIGN CHOICE (log entry 84), every shot count rises and the others go to DEAD_TIME
before the lockout is entered and spreads, so a record it takes to THREE_POLE keeps the risen count. -/
def openRecords (reached lost : PoleSet) (s : State) : State :=
  let ps := (if reached.isEmpty then reached else widen s reached).inter
    (polesWhere s fun r => decide (r.state = .tripping))
  let s := mapRecs (ps.inter (polesWhere s fun r => r.note.isNone))
    (fun r => { r with shot := r.shot + 1 }) s
  let want : Tri (Option LockEntry) := Tri.of fun p =>
    if lost.get p then some (lockCause .failToOpen)
    else if ps.get p then openedEntry s (s.seq.recs.get p) else none
  enterLockout want
    (mapRecs (ps.inter (want.map Option.isNone)) (SeqRecord.toDeadTime s.cfg.prot s.elapsed) s)

/-- A first attempt has missed poles (R45): in SINGLE mode the records of the poles that opened go on,
in GANGED mode all three wait for the second attempt. A retry whose withdrawal has been taken before this
result will not end: with none left the request is judged here, by what opened (log entry 16). -/
def holdForRetry (r : StrokeOutcome) (s : State) : State :=
  let missed := r.missed.inter (retryComing s)
  let group : RetryGroup :=
    { joined := r.joined, poles := r.poles, opened := r.reached, missed := missed }
  let s :=
    if missed.isEmpty then judgeRequest r.joined r.poles r.reached s
    else { s with seq := { s.seq with retries := s.seq.retries ++ [group] } }
  match s.cfg.prot.tripMode with
  | .single => openRecords r.reached Tri.empty s
  | .ganged => s

/-- The retried request that a final result of attempt 2 ends. -/
def RetryGroup.endedBy (r : StrokeOutcome) (g : RetryGroup) : Bool :=
  decide (r.attempt ≠ 1) && g.missed.meets r.poles

/-- Outcome notes have served once their trip is final. -/
def SeqRecord.clearNote (r : SeqRecord) : SeqRecord :=
  if r.state = .tripping then r else { r with note := none }

/-- The records after a final trip result (R44, R45). -/
def finishTrip (r : StrokeOutcome) (s : State) : State :=
  if r.missed.isEmpty then openRecords r.reached Tri.empty s
  else
    match s.cfg.prot.tripMode with
    | .single => openRecords r.reached r.missed s
    | .ganged => lockTogether .failToOpen Tri.full s

/-- A final trip result (R44, R45): the TRIP event of the whole request first, then the records. -/
def finalTrip (r : StrokeOutcome) (s : State) : State :=
  let ended := s.seq.retries.filter (RetryGroup.endedBy r)
  let joined := ended.foldl (fun u g => u.union g.joined) r.joined
  let poles := ended.foldl (fun u g => u.union g.poles) r.poles
  let opened := ended.foldl (fun u g => u.union g.opened) r.reached
  let s := { s with seq := { s.seq with
    retries := s.seq.retries.filter fun g => !g.endedBy r } }
  mapRecs poles SeqRecord.clearNote (finishTrip r (judgeRequest joined poles opened s))

/-! ## Close results (R48) -/

/-- A record in CLOSING goes to RECLAIM on success (R48). -/
def SeqRecord.closeDone (now reclaim : Nat) (r : SeqRecord) : SeqRecord :=
  { r with
    state := .reclaim, closeOrigin := none,
    timer := some { kind := .reclaim, deadline := now + reclaim },
    shot :=
      match r.closeOrigin with
      | some .commandCabinet => r.lockOps - 1
      | some .commandRadio => r.lockOps - 1
      | some .protection => r.shot
      | none => r.shot }

/-- The records of a success with a commanded origin share one CLOSED_BY_COMMAND event (R48). -/
def raiseClosed (src : CmdSource) (ps : PoleSet) (s : State) : State :=
  if ps.isEmpty then s else raise .sequence (.closedByCommand ps src) s

/-- The records of a success with origin PROTECTION share one RECLOSE event (R48). -/
def raiseReclose (ps : PoleSet) (s : State) : State :=
  let shot := agreed (ps.poles.map fun p => (s.seq.recs.get p).shot) s
  match shot.1 with
  | some n => raise .sequence (.reclose ps n) shot.2
  | none => s

/-- The close has succeeded for these records (R48). Events of different origins have no stated order: DESIGN
CHOICE (log entry 86), RECLOSE is raised first, then CLOSED_BY_COMMAND of the cabinet, then of the radio. -/
def closeSucceeds (ps : PoleSet) (s : State) : State :=
  let byOrigin := fun (o : CloseOrigin) => ps.inter (polesWhere s fun r => decide (r.closeOrigin = some o))
  raiseClosed .radio (byOrigin .commandRadio)
    (raiseClosed .cabinet (byOrigin .commandCabinet)
      (raiseReclose (byOrigin .protection)
        (mapRecs ps (SeqRecord.closeDone s.elapsed s.cfg.prot.reclaim) s)))

/-- The source of a trip after close mark that R54 set. -/
def SeqRecord.markSource (r : SeqRecord) : Option CmdSource :=
  match r.tripAfter with
  | some (.command src) => some src
  | some .threePole => none
  | none => none

/-- The lockout a close result brings a record of its set, if any (R48). -/
def closedEntry (r : StrokeOutcome) (x : SeqRecord) : Option LockEntry :=
  match x.tripAfter with
  | some (.command src) => some { cause := .command, source := some src }
  | some .threePole => none
  | none =>
    if x.state = .closing then
      if r.cut then some (lockCause .lever)
      else if r.missed.isEmpty then none else some (lockCause .failToClose)
    else none

/-- A close result is taken (R48); in GANGED mode it reaches all three records (R50). Where one record
holds the COMMAND trip after close mark and another none, R48 gives no order between them: DESIGN CHOICE
(log entry 77), the success of the others is taken and reported first, and the LOCKOUT COMMAND of the
marked one then spreads over them. Nor does it order the trip requests of marks of different origins: DESIGN
CHOICE (log entry 86), COMMAND_CABINET is posted first, then COMMAND_RADIO, then THREE_POLE. -/
def takeCloseResult (r : StrokeOutcome) (s : State) : State :=
  let poles := widen s r.poles
  let failed := r.cut || !r.missed.isEmpty
  let marked := poles.inter (polesWhere s fun x => x.tripAfter.isSome)
  let byCabinet := poles.inter (polesWhere s fun x => decide (x.markSource = some .cabinet))
  let byRadio := poles.inter (polesWhere s fun x => decide (x.markSource = some .radio))
  let closing := poles.inter (polesWhere s fun x =>
    decide (x.state = .closing) && x.tripAfter.isNone)
  let want : Tri (Option LockEntry) := Tri.of fun p =>
    if poles.get p then closedEntry r (s.seq.recs.get p) else none
  let threePole := ((if failed then poles else marked).diff byCabinet).diff byRadio
  let s := mapRecs marked (fun x => { x with tripAfter := none }) s
  let s := if failed then s else closeSucceeds closing s
  let s := enterLockout want s
  let s := postTrip (byCabinet.inter (shownClosed s)) .commandCabinet s
  let s := postTrip (byRadio.inter (shownClosed s)) .commandRadio s
  postTrip (threePole.inter (shownClosed s)) .threePole s

/-- A stroke result is taken: the poles that reached the target show it (log entry 13). -/
def takeStrokeResult (r : StrokeOutcome) (s : State) : State :=
  let s := { s with seq := { s.seq with
    view := Tri.of fun p => if r.reached.get p then targetState r.kind else s.seq.view.get p } }
  match r.kind with
  | .trip => if r.final then finalTrip r s else holdForRetry r s
  | .close => takeCloseResult r s

/-- STROKE_RESULT (R44). -/
def execStrokeResult : State → Result :=
  whenRunning fun s =>
    match s.mail.strokes with
    | .result r :: rest => seqEvent (takeStrokeResult r) (popStroke rest s)
    | .grant _ :: _ => s
    | .refusal _ _ :: _ => s
    | [] => s

/-! ## The lever (R57) -/

/-- The lever has gone to TRIPPED (R57, R50). -/
def leverTrips (s : State) : State :=
  let entered := !Tri.full.within (lockedPoles s)
  let s := lockPoles (lockCause .lever) Tri.full s
  let s := withdraw .close Tri.full (withdraw .trip Tri.full s)
  match s.cfg.prot.tripMode with
  | .single => s
  | .ganged => if entered then postTrip (shownClosed s) .threePole s else s

/-- SEQUENCE_LEVER_CHANGE (R57): the oldest lever change handed to the sequence controller. -/
def execSequenceLeverChange : State → Result :=
  whenRunning fun s =>
    match s.mail.seqLever with
    | [] => s
    | tripped :: rest =>
      let s := { s with mail := { s.mail with seqLever := rest } }
      if tripped && s.seq.created then seqEvent leverTrips s else s

/-! ## Contacts (R58, R59) -/

/-- A pole has changed to OPEN (R58). -/
def poleOpens (p : Pole) (s : State) : State :=
  let r := s.seq.recs.get p
  if (inFlight .trip s).get p then s
  else if r.state.holdsClosed then lockTogether .externalOpen (Tri.single p) s
  else if decide (r.state = .tripping) && (waitingTrips s).get p then
    lockTogether .externalOpen (Tri.single p)
      (withdraw .trip (Tri.single p)
        (mapRecs (widen s (Tri.single p)) SeqRecord.clearTrip s))
  else s

/-- The states in which a closed pole has been found closed from outside (R59). -/
def SeqState.holdsOpen : SeqState → Bool
  | .deadTime => true
  | .closeWait => true
  | .lockout => true
  | .rest => false
  | .timing => false
  | .tripping => false
  | .closing => false
  | .reclaim => false

/-- A pole has changed to CLOSED (R59). -/
def poleCloses (p : Pole) (s : State) : State :=
  if (inFlight .close s).get p || !(s.seq.recs.get p).state.holdsOpen then s
  else
    let set := widen s (Tri.single p)
    let waiting := set.inter (polesWhere s fun r => decide (r.state = .closeWait))
    postTrip set .protection
      (withdraw .close waiting
        (mapRecs set (SeqRecord.toTripping .externalOpen) (dropStaleTrips set s)))

/-- A pole-state change reaches the sequence controller. -/
def takePoleChange (p : Pole) (st : PoleState) (s : State) : State :=
  let s' := { s with seq := { s.seq with view := s.seq.view.set p st } }
  if s.seq.view.get p = st then s
  else if s.seq.created then
    match st with
    | .opened => poleOpens p s'
    | .closed => poleCloses p s'
    | .unknown => s'
  else s'

/-- SEQUENCE_POLE_CHANGE (R58): the oldest pole-state change handed to the sequence controller. -/
def execSequencePoleChange : State → Result :=
  whenRunning fun s =>
    match s.mail.seqPoles with
    | [] => s
    | (p, st) :: rest =>
      seqEvent (takePoleChange p st) { s with mail := { s.mail with seqPoles := rest } }

end Sys2Proof.Machine
end

