-- ==== Sys2Proof/Machine/StartUp.lean ====
section
/-! DEFINITION. Starting and stopping (sections 7.3 and 6.5): DARK, the reset pin, the start-up reads, the
settling of the inputs, and the setting up of protection. -/

namespace Sys2Proof.Machine

/-! ## Stopping and starting (R119, R126) -/

/-- The part with every block's working state at its start values: what survives is the retained record
and the stored settings, each as an uncompleted write has left it (R119, R124, R128). -/
def blankPart (power : PartPower) (cause : ResetCause) (s : State) : State :=
  { State.reset with
    power := power, cause := cause,
    ret := { writing := none, rewrite := false, suspect := false, chip := s.ret.chip },
    store := { stored := s.store.stored, writing := none, waiting := [] },
    free := s.free, pending := s.pending }

/-- The part stops: the cabinet controller power switch stays on through a reset of the part, and has no
power in DARK (R126, R119). -/
def stopPart (power : PartPower) (s : State) : State :=
  let s := blankPart power s.cause s
  { s with bat := { s.bat with cabinetSwitch := decide (power = .resetHeld) } }

/-- DARK (R119). -/
def execDark (s : State) : Result :=
  match s.power with
  | .running => .next (stopPart .dark s)
  | .resetHeld => .next (stopPart .dark s)
  | .dark => .next s

/-- RESET_PIN_ASSERT (R126). -/
def execResetPinAssert (s : State) : Result :=
  match s.power with
  | .running => .next (stopPart .resetHeld s)
  | .resetHeld => .next s
  | .dark => .next s

/-- RESET_PIN_RELEASE (R126): a start with cause RESET_PIN. -/
def execResetPinRelease (s : State) : Result :=
  match s.power with
  | .resetHeld => .next (blankPart .running .resetPin s)
  | .running => .next s
  | .dark => .next s

/-- POWER_ON_START (R126): the supply rises above its minimum after DARK. Where the reset pin is still
asserted at that moment R126 does not say whether the part starts: DESIGN CHOICE (log entry 73), it starts
with POWER_ON, DARK having lost the pin. -/
def execPowerOnStart (s : State) : Result :=
  match s.power with
  | .dark => .next (blankPart .running .powerOn s)
  | .running => .next s
  | .resetHeld => .next s

/-! ## The retained record (R127) -/

/-- A restored tag: retained YES and settled (R81). -/
def RetainedTag.restored (t : RetainedTag) : TagEntry :=
  { kind := t.kind, crew := t.crew, source := t.source, placedAt := t.placedAt, retained := true,
    reported := true, removal := none, mark := .none, replyTo := .nobody }

/-- The blocks restore what a valid record holds, and a rewrite is requested (R127, R125). A record that a
faulted write left and that happens to read as valid is restored as it is, and its tags are not held to
R81's bounds: DESIGN CHOICE (log entry 71). -/
def restoreRecord (c : RetainedContent) (s : State) : State :=
  requestRewrite { s with
    tags := { s.tags with table := c.tags.map RetainedTag.restored },
    meas := { s.meas with counters := c.counters },
    en := { s.en with failed := c.failed },
    eq := { s.eq with next := (c.base + 64) % 65536, base := (c.base + 128) % 65536 } }

/-- The check an invalid record failed: the marker, or the CRC. Which of them is named where both failed is
not stated: DESIGN CHOICE (log entry 72), the marker. -/
def failedCheck (i : RetainedImage) : LostCheck := if i.marker then .crc else .marker

/-- A start with an invalid record (R127): empty state, SYSTEM_HOLD, whose acceptance requests the
rewrite that covers the start-up procedure's own (log entry 22), and RETAINED_LOST. -/
def loseRecord (check : LostCheck) (s : State) : State :=
  raise .startUp (.retainedLost check)
    (placeSystemHold { s with
      tags := { s.tags with table := [] },
      meas := { s.meas with counters := Tri.all 0 },
      en := { s.en with failed := Tri.all false },
      eq := { s.eq with next := 0, base := 64 } })

/-- The retained record is read and judged. -/
def readRecord (s : State) : State :=
  if s.ret.chip.valid then restoreRecord s.ret.chip.content s else loseRecord (failedCheck s.ret.chip) s

/-! ## The settings blocks (R128) -/

/-- Every settings block. The start-up procedure reads each, in an order R128 does not state: DESIGN CHOICE
(log entry 75), the order in which R128 lists them, which is then that of the SETTINGS_DEFAULTED events and
of the write-backs. -/
def allBlocks : List BlockName :=
  [.protection, .curve 0, .curve 1, .curve 2, .curve 3, .curve 4, .curve 5, .curve 6, .curve 7,
    .curve 8, .curve 9, .curve 10, .curve 11, .battery, .radio, .roster, .capture]

/-- A defaulted block that places SYSTEM_HOLD: PROTECTION and every CURVE. -/
def BlockName.guarded : BlockName → Bool
  | .protection => true
  | .curve _ => true
  | .battery => false
  | .radio => false
  | .roster => false
  | .capture => false

/-- A block is replaced by its defaults (R128): the event, the write-back, and SYSTEM_HOLD. -/
def defaultBlock (b : BlockName) (s : State) : State :=
  let s := raise .startUp (.settingsDefaulted b)
    { s with cfg := putInForce s.cfg (defaultContent b) }
  let s := requestSettingsWrite b s
  if b.guarded then placeSystemHold s else s

/-- A block is read: put in force when its CRC matches. -/
def readBlock (b : BlockName) (s : State) : State :=
  match storedCopy s.store.stored b with
  | some x => if x.good then { s with cfg := putInForce s.cfg x.content } else defaultBlock b s
  | none => defaultBlock b s

/-- Blocks are read one after the other. -/
def readBlocks : List BlockName → State → State
  | [], s => s
  | b :: bs, s => readBlocks bs (readBlock b s)

/-! ## After the reads (R127, R32, R36, R106, R161) -/

/-- The tag controller's signals of the start reach the sequence controller, the actuator and energy unit
and the overcurrent unit on the event of the reads: no record and no stroke exists for them to act on. -/
def takeStartSignals (s : State) : State :=
  { s with
    seq := { s.seq with
      summary := { kinds := kindsHeld s.tags.table, hold := s.tags.holdPending } },
    oc := { s.oc with armed := s.tags.table.any fun e => decide (e.kind = .hotLine) },
    mail := { s.mail with seqTags := [], enTags := [], arming := [] } }

/-- The test timer runs from the start with the period in force (R106). -/
def startTestTimer (s : State) : State :=
  { s with bat := { s.bat with
      testTimer :=
        if s.cfg.battery.testPeriod = 0 then none else some (periodMs s.cfg.battery.testPeriod) } }

/-- The segments take the layout in force; a set delivered before is not recorded (R161). -/
def startSegments (s : State) : State :=
  let last := s.meas.latest.index
  { s with
    cap := { s.cap with
      lastSet := last, segments := segmentLayout s.cfg.capture.segments last },
    mail := { s.mail with capSets := [] } }

/-- Protection is set up once the reads and the settled inputs have both arrived (R129). The overcurrent
unit evaluates from the first set after it. -/
def judgeSetUp (s : State) : State :=
  if s.readsDone && s.meas.settled && !s.seq.created then
    setUpProtection { s with mail := { s.mail with ocSets := [] } }
  else s

/-- The reads complete (R127, R128). -/
def completeReads (s : State) : State :=
  let s := readBlocks allBlocks (readRecord s)
  let s := startSegments (startTestTimer (takeStartSignals (holdCredit s)))
  judgeSetUp { s with readsDone := true }

/-- START_UP_READS (R127): the reads complete once at each start. -/
def execStartUpReads : State → Result :=
  whenRunning fun s => if s.readsDone then s else completeReads s

/-! ## The inputs (R7, R9) -/

/-- The debounced states are the raw levels. -/
def rawInputs (l : InputLevels) : Inputs :=
  { contactA := l.contactA, contactB := l.contactB, leverTripped := l.lever,
    selectorRemote := l.selector }

/-- The pole state that contacts give at start: agreeing contacts give UNKNOWN at once (R9). -/
def startPole (l : InputLevels) (p : Pole) : PoleState :=
  (contactState (l.contactA.get p) (l.contactB.get p)).getD .unknown

/-- POLE_UNKNOWN for a pole whose contacts agree at start (R9). -/
def reportStartPole (l : InputLevels) (p : Pole) (s : State) : State :=
  match contactState (l.contactA.get p) (l.contactB.get p) with
  | some _ => s
  | none => raise .measurement (.poleUnknown p (l.contactA.get p)) s

/-- The inputs settle (R7, R9, R10). R9 gives no order where several poles are UNKNOWN: DESIGN CHOICE (log
entry 63), their events are raised in the order A, B, C. -/
def settleInputs (l : InputLevels) (s : State) : State :=
  let s := { s with
    meas := { s.meas with
      settled := true, inputs := rawInputs l, pole := Tri.of (startPole l),
      lastDefinite := Tri.of fun p => contactState (l.contactA.get p) (l.contactB.get p) },
    en := { s.en with view := Tri.of (startPole l) } }
  judgeSetUp (reportStartPole l .c (reportStartPole l .b (reportStartPole l .a s)))

/-- INPUTS_SETTLED (R7): 10 ms after the start, once. -/
def execInputsSettled (levels : InputLevels) : State → Result :=
  whenRunning fun s =>
    if decide (10 ≤ s.elapsed) && !s.meas.settled then settleInputs levels s else s

end Sys2Proof.Machine
end

