-- ==== Sys2Proof/Machine/Stores.lean ====
section
/-! DEFINITION. The completions of the retained store and the settings store (chapter 7). -/

namespace Sys2Proof.Machine

/-- The replies owed for changes that the completed write covers are answered (R122, R11, R77). -/
def answerOwed (fault : Bool) : List OwedWrite → State → State
  | [], s => s
  | o :: os, s =>
    answerOwed fault os (if o.covered then answerCode o.request (reportCode fault) s else s)

/-- The replies still owed for the next write. -/
def stillOwed (l : List OwedWrite) : List OwedWrite := l.filter fun o => !o.covered

/-- The owners resolve the changes that a completed retained write covers (R122 steps 1 and 2). -/
def resolveOwners (fault : Bool) (s : State) : State :=
  let s := completeTags fault s
  let s := answerOwed fault s.meas.owed s
  let s := answerOwed fault s.en.owed s
  { s with
    meas := { s.meas with owed := stillOwed s.meas.owed },
    en := { s.en with owed := stillOwed s.en.owed } }

/-- What a faulted write leaves on the chip: a free value (log entry 6), but for the event-number base,
which stays the previous one (R125). -/
def faultedChip (s : State) : RetainedImage :=
  let left := Config.faultedRecord s.free
  { left with content := { left.content with base := s.ret.chip.content.base } }

/-- The store takes the outcome of a retained write (R123). -/
def takeWriteOutcome (fault : Bool) (content : RetainedContent) (s : State) : State :=
  if fault then
    let s' := flagStoreFault
      { s with
        ret := { s.ret with
          suspect := true, rewrite := s.ret.rewrite || !s.ret.suspect,
          chip := faultedChip s },
        free := s.free + 1 }
    if s.ret.suspect then s' else raise .retainedStore (.storeFault none) s'
  else { s with ret := { s.ret with suspect := false, chip := writtenImage content } }

/-- The store returns to IDLE, and starts the next write at once when a rewrite is pending (R122 step
4). -/
def leaveWriting (s : State) : State :=
  let s' := { s with ret := { s.ret with writing := none } }
  if s.ret.rewrite then startRetainedWrite s' else s'

/-- RETAINED_WRITE_COMPLETE (R122). -/
def execRetainedWriteComplete (fault : Bool) : State → Result :=
  whenRunning fun s =>
    match s.ret.writing with
    | none => s
    | some content => leaveWriting (takeWriteOutcome fault content (resolveOwners fault s))

/-- The outcome of a settings write (R128): the stored copy is whole, or the read-back failed and
STORE_FAULT is raised. -/
def takeSettingsOutcome (fault : Bool) (c : BlockContent) (s : State) : State :=
  if fault then flagStoreFault (raise .settingsStore (.storeFault (some c.name)) s)
  else
    { s with store := { s.store with
        stored := setStoredCopy s.store.stored c.name (some (storedForm c)) } }

/-- The next settings write in the order of the requests (R128). -/
def nextSettingsWrite (s : State) : State :=
  match s.store.waiting with
  | [] => { s with store := { s.store with writing := none } }
  | b :: rest => startSettingsWrite b { s with store := { s.store with waiting := rest } }

/-- SETTINGS_WRITE_COMPLETE (R128). -/
def execSettingsWriteComplete (fault : Bool) : State → Result :=
  whenRunning fun s =>
    match s.store.writing with
    | none => s
    | some c => nextSettingsWrite (takeSettingsOutcome fault c s)

end Sys2Proof.Machine
end

