-- ==== Sys2Proof/Machine/Dispatch.lean ====
section
/-! DEFINITION. The dispatch of a command to its meaning: one arm per constructor of `Instr`. -/

namespace Sys2Proof.Machine

def exec (i : Instr) (s : State) : Host.Outcome State Fault Refusal :=
  match i with
  | .measurementSet a b c g => Sys2Proof.Machine.execMeasurementSet a b c g s
  | .overcurrentEvaluation => Sys2Proof.Machine.execOvercurrentEvaluation s
  | .hotLineArming => Sys2Proof.Machine.execHotLineArming s
  | .peakMagnitudeUpdate => Sys2Proof.Machine.execPeakMagnitudeUpdate s
  | .captureSetWrite => Sys2Proof.Machine.execCaptureSetWrite s
  | .samplingTimer vBatt iBatt vBank vSupply temp => Sys2Proof.Machine.execSamplingTimer vBatt iBatt vBank vSupply temp s
  | .averageDelivery => Sys2Proof.Machine.execAverageDelivery s
  | .debouncedInputChange input level stood => Sys2Proof.Machine.execDebouncedInputChange input level stood s
  | .poleUnknown p => Sys2Proof.Machine.execPoleUnknown p s
  | .inputsSettled levels => Sys2Proof.Machine.execInputsSettled levels s
  | .timeBaseTick => Sys2Proof.Machine.execTimeBaseTick s
  | .counterRead tag => Sys2Proof.Machine.execCounterRead tag s
  | .counterSet tag pole value => Sys2Proof.Machine.execCounterSet tag pole value s
  | .timeSet tag seconds word => Sys2Proof.Machine.execTimeSet tag seconds word s
  | .evaluationResult => Sys2Proof.Machine.execEvaluationResult s
  | .grantNotice => Sys2Proof.Machine.execGrantNotice s
  | .strokeResult => Sys2Proof.Machine.execStrokeResult s
  | .closeRefusal => Sys2Proof.Machine.execCloseRefusal s
  | .deadTimeExpiry ps => Sys2Proof.Machine.execDeadTimeExpiry ps s
  | .closeWaitExpiry ps => Sys2Proof.Machine.execCloseWaitExpiry ps s
  | .sequenceReset ps => Sys2Proof.Machine.execSequenceReset ps s
  | .sequenceTagInForce => Sys2Proof.Machine.execSequenceTagInForce s
  | .sequenceTagRemoved => Sys2Proof.Machine.execSequenceTagRemoved s
  | .poleTrip tag set => Sys2Proof.Machine.execPoleTrip tag set s
  | .poleClose tag set => Sys2Proof.Machine.execPoleClose tag set s
  | .sequenceLeverChange => Sys2Proof.Machine.execSequenceLeverChange s
  | .sequencePoleChange => Sys2Proof.Machine.execSequencePoleChange s
  | .tripRequestArrival => Sys2Proof.Machine.execTripRequestArrival s
  | .closeRequestArrival => Sys2Proof.Machine.execCloseRequestArrival s
  | .requestWithdrawal => Sys2Proof.Machine.execRequestWithdrawal s
  | .strokePoleChange => Sys2Proof.Machine.execStrokePoleChange s
  | .strokeTimeout => Sys2Proof.Machine.execStrokeTimeout s
  | .settleTimeExpiry => Sys2Proof.Machine.execSettleTimeExpiry s
  | .energyFail p => Sys2Proof.Machine.execEnergyFail p s
  | .strokeLeverChange => Sys2Proof.Machine.execStrokeLeverChange s
  | .energyTagSignal => Sys2Proof.Machine.execEnergyTagSignal s
  | .poleFailClear tag pole => Sys2Proof.Machine.execPoleFailClear tag pole s
  | .tagPlace tag kind crew => Sys2Proof.Machine.execTagPlace tag kind crew s
  | .tagRemove tag kind crew => Sys2Proof.Machine.execTagRemove tag kind crew s
  | .tagList tag => Sys2Proof.Machine.execTagList tag s
  | .tokenFrame bytes => Sys2Proof.Machine.execTokenFrame bytes s
  | .opticalFrameGap => Sys2Proof.Machine.execOpticalFrameGap s
  | .placeHotLine crew number => Sys2Proof.Machine.execPlaceHotLine crew number s
  | .placeDoNotClose crew number => Sys2Proof.Machine.execPlaceDoNotClose crew number s
  | .removeHotLine crew number => Sys2Proof.Machine.execRemoveHotLine crew number s
  | .removeDoNotClose crew number => Sys2Proof.Machine.execRemoveDoNotClose crew number s
  | .removeSystemHold crew number => Sys2Proof.Machine.execRemoveSystemHold crew number s
  | .query crew number => Sys2Proof.Machine.execQuery crew number s
  | .opticalReplySent => Sys2Proof.Machine.execOpticalReplySent s
  | .blockRestartOptical tag => Sys2Proof.Machine.execBlockRestartOptical tag s
  | .retainedWriteComplete fault => Sys2Proof.Machine.execRetainedWriteComplete fault s
  | .powerOnStart => Sys2Proof.Machine.execPowerOnStart s
  | .resetPinAssert => Sys2Proof.Machine.execResetPinAssert s
  | .resetPinRelease => Sys2Proof.Machine.execResetPinRelease s
  | .dark => Sys2Proof.Machine.execDark s
  | .startUpReads => Sys2Proof.Machine.execStartUpReads s
  | .settingsWriteComplete fault => Sys2Proof.Machine.execSettingsWriteComplete fault s
  | .batteryTestTimer => Sys2Proof.Machine.execBatteryTestTimer s
  | .restTimerExpiry => Sys2Proof.Machine.execRestTimerExpiry s
  | .loadTimerExpiry => Sys2Proof.Machine.execLoadTimerExpiry s
  | .retryTimerExpiry => Sys2Proof.Machine.execRetryTimerExpiry s
  | .absorbTimerExpiry => Sys2Proof.Machine.execAbsorbTimerExpiry s
  | .batteryRestNotice => Sys2Proof.Machine.execBatteryRestNotice s
  | .bankFullNotice => Sys2Proof.Machine.execBankFullNotice s
  | .crewVisitWindowExpiry => Sys2Proof.Machine.execCrewVisitWindowExpiry s
  | .batteryTestStart tag => Sys2Proof.Machine.execBatteryTestStart tag s
  | .batteryResultGet tag => Sys2Proof.Machine.execBatteryResultGet tag s
  | .blockRestartBatteryTest tag => Sys2Proof.Machine.execBlockRestartBatteryTest tag s
  | .recordArrival source => Sys2Proof.Machine.execRecordArrival source s
  | .eventFetch tag wait => Sys2Proof.Machine.execEventFetch tag wait s
  | .fetchWaitExpiry => Sys2Proof.Machine.execFetchWaitExpiry s
  | .txResult tag body crc => Sys2Proof.Machine.execTxResult tag body crc s
  | .modemTimeout => Sys2Proof.Machine.execModemTimeout s
  | .recoveryTimerExpiry => Sys2Proof.Machine.execRecoveryTimerExpiry s
  | .readyWaitExpiry => Sys2Proof.Machine.execReadyWaitExpiry s
  | .modemReady tag body crc => Sys2Proof.Machine.execModemReady tag body crc s
  | .modemPermissionChange => Sys2Proof.Machine.execModemPermissionChange s
  | .refillTimer => Sys2Proof.Machine.execRefillTimer s
  | .ackWaitExpiry number => Sys2Proof.Machine.execAckWaitExpiry number s
  | .statusTimer => Sys2Proof.Machine.execStatusTimer s
  | .rxPacket tag body crc => Sys2Proof.Machine.execRxPacket tag body crc s
  | .ack number body => Sys2Proof.Machine.execAck number body s
  | .poll number => Sys2Proof.Machine.execPoll number s
  | .tripCommand number set => Sys2Proof.Machine.execTripCommand number set s
  | .closeCommand number set => Sys2Proof.Machine.execCloseCommand number set s
  | .blockSet number => Sys2Proof.Machine.execBlockSet number s
  | .blockClear number => Sys2Proof.Machine.execBlockClear number s
  | .timeSync number seconds word => Sys2Proof.Machine.execTimeSync number seconds word s
  | .tagQuery number => Sys2Proof.Machine.execTagQuery number s
  | .blockRestartRadio tag => Sys2Proof.Machine.execBlockRestartRadio tag s
  | .captureList tag => Sys2Proof.Machine.execCaptureList tag s
  | .captureRead tag id index => Sys2Proof.Machine.execCaptureRead tag id index s
  | .captureReadNext tag => Sys2Proof.Machine.execCaptureReadNext tag s
  | .captureRelease tag id => Sys2Proof.Machine.execCaptureRelease tag id s
  | .blockRestartCapture tag => Sys2Proof.Machine.execBlockRestartCapture tag s
  | .requestFrame bytes => Sys2Proof.Machine.execRequestFrame bytes s
  | .cabinetFrameGap => Sys2Proof.Machine.execCabinetFrameGap s
  | .cabinetPowerOff => Sys2Proof.Machine.execCabinetPowerOff s
  | .cabinetPowerOn => Sys2Proof.Machine.execCabinetPowerOn s
  | .attnGet tag => Sys2Proof.Machine.execAttnGet tag s
  | .attnClear tag flags => Sys2Proof.Machine.execAttnClear tag flags s
  | .attnMask tag mask => Sys2Proof.Machine.execAttnMask tag mask s
  | .statusGet tag => Sys2Proof.Machine.execStatusGet tag s
  | .statusClear tag => Sys2Proof.Machine.execStatusClear tag s
  | .settingsWrite tag block curve content => Sys2Proof.Machine.execSettingsWrite tag block curve content s
  | .settingsRead tag block curve => Sys2Proof.Machine.execSettingsRead tag block curve s
  | .stageGet tag => Sys2Proof.Machine.execStageGet tag s
  | .stageDiscard tag => Sys2Proof.Machine.execStageDiscard tag s
  | .stagerNotice source => Sys2Proof.Machine.execStagerNotice source s
  | .cabinetFrameDropped bytes => Sys2Proof.Machine.execCabinetFrameDropped bytes s

end Sys2Proof.Machine
end

