-- ==== Sys2Proof/Safety.lean ====
section
/-! DEFINITION. What counts as a sound state of the part, block by block, and the conditions and replies
that the statements share. Every condition is decidable on a given state. -/

namespace Sys2Proof

/-- The commands that start or stop the part (R119, R126). -/
def Instr.startsOrStops (c : Instr) : Bool :=
  decide (c ∈ [Instr.powerOnStart, .resetPinAssert, .resetPinRelease, .dark])

end Sys2Proof

namespace Sys2Proof.Machine

/-! ## Conditions and replies of the cabinet link and the radio -/

/-- A request frame is dispatched on its arrival: the part runs and is started, no fetch waits and no
reply is owed (R170). -/
abbrev Ready (s : State) : Prop :=
  s.power = .running ∧ s.cab.started = true ∧ s.eq.fetch = none ∧ s.cab.owed = none

/-- A command of the master station reaches the part: the modem is powered, asked for and permitted by
the power state (R117, R148, R155). -/
abbrev Hearing (s : State) : Prop :=
  s.power = .running ∧ s.rad.request = true ∧ s.bat.power = some .run

/-- The request of this kind and tag has been dispatched and a reply is owed (R170 step 6). -/
def owing (kind tag : Byte) (s : State) : State :=
  { s with cab := { s.cab with
      owed := some { request := s.cab.nextRequest, kind := kind, tag := tag },
      nextRequest := s.cab.nextRequest + 1 } }

/-- The request of this kind and tag has been dispatched and answered at once. -/
def replied (kind tag : Byte) (code : ResultCode) (content : ReplyContent) (s : State) : State :=
  { s with cab := { s.cab with
      owed := none, nextRequest := s.cab.nextRequest + 1,
      replies := s.cab.replies ++ [{ kind := kind, tag := tag, code := code, content := content }] } }

/-- A record is raised. -/
def withRecord (source : RecordSource) (body : EventBody) (s : State) : State :=
  { s with mail := { s.mail with raised := s.mail.raised ++ [(source, body)] } }

/-- A fresh result stands in the reply slot (R154). -/
def withSlot (command number : Byte) (code : ResultCode) (tags : Option (Bool × List TagLine))
    (s : State) : State :=
  { s with rad := { s.rad with
      slot := some { command := command, number := number, code := code, tags := tags,
                     inSend := false } } }

/-! ## The sequence controller's commands and the entries to LOCKOUT they bring -/

/-- The commands that the sequence controller takes as its own events (R39 to R59), but for the sets of
R40, which move no record. -/
def sequenceCommands (tag set : Byte) (ps : PoleSet) : List Instr :=
  [.evaluationResult, .grantNotice, .strokeResult, .closeRefusal, .deadTimeExpiry ps,
    .closeWaitExpiry ps, .sequenceReset ps, .sequenceTagInForce, .sequenceTagRemoved,
    .sequenceLeverChange, .sequencePoleChange, .poleTrip tag set, .poleClose tag set,
    .tripCommand tag set, .closeCommand tag set]

/-- The poles whose records a command has taken from another state to LOCKOUT (R37). -/
def enteredLockout (s t : State) : PoleSet :=
  Tri.of fun p => decide ((s.seq.recs.get p).state ≠ .lockout)
    && decide ((t.seq.recs.get p).state = .lockout)

/-- A POWER_STATE event. -/
def isPowerState (e : RecordSource × EventBody) : Bool :=
  match e.2 with
  | .powerState _ _ _ _ => true
  | _ => false

/-- A LOCKOUT event of this cause. -/
def isLockoutOf (cause : LockoutCause) (e : RecordSource × EventBody) : Bool :=
  match e.2 with
  | .lockout _ c _ _ _ => decide (c = cause)
  | _ => false

/-- Protection as set-up leaves it (R35, R129): a pole that shows CLOSED and is not FAILED has a record in
REST, or in LOCKOUT THREE_POLE with a trip posted where another pole is locked out; any other pole has one in
LOCKOUT START_OPEN, with a trip posted where it shows CLOSED. The LOCKOUT events and protection at rest are
reported. -/
def ProtectionSetUp (s t : State) : Prop :=
  let closed := fun (p : Pole) => decide (t.meas.pole.get p = .closed)
  let bad : PoleSet := Tri.of fun p => !(closed p && !t.en.failed.get p)
  let tripped := fun (p : Pole) => ∃ ps, .trip ps .threePole ∈ t.mail.requests ∧ ps.get p = true
  t.seq.created = true ∧ t.seq.saidAtRest = true ∧ t.seq.view = t.meas.pole
    ∧ t.mail.stageRest = s.mail.stageRest ++ [true]
    ∧ t.mail.rest = s.mail.rest ++ [{ departure := false, change := some true }]
    ∧ (∀ p, t.seq.recs.get p = { startRecord with
        state := if bad.isEmpty then .rest else .lockout,
        cause := if bad.get p then some .startOpen else if bad.isEmpty then none else some .threePole,
        lockOps := if closingBlock t.seq.summary then 1 else t.cfg.prot.opsToLockout })
    ∧ (bad.isEmpty = false → ∀ p, closed p = true → tripped p)
    ∧ (bad.isEmpty = false → (.sequence, .lockout bad .startOpen 0 none none) ∈ t.mail.raised)
    ∧ (bad.isEmpty = false → bad ≠ Tri.full →
        (.sequence, .lockout (Tri.full.diff bad) .threePole 0 none none) ∈ t.mail.raised)

/-! ## Sound states -/

/-- The time base counts within its ranges (R12). -/
abbrev ClockSound (s : State) : Prop := s.clock.ms < 1000 ∧ s.clock.seconds < 4294967296

/-- The event queue holds at most 64 records, no two with one number, at most one STATUS record (R139);
the next number is one that no record holds (R135); before the reads complete it holds none (R144). -/
abbrev QueueSound (s : State) : Prop :=
  s.eq.records.length ≤ 64 ∧ (s.eq.records.map EventRecord.number).Nodup
    ∧ (∀ r ∈ s.eq.records, r.number < 65536) ∧ s.eq.next < 65536
    ∧ s.eq.next ∉ s.eq.records.map EventRecord.number
    ∧ (s.eq.records.filter fun r => decide (r.cls = .status)).length ≤ 1
    ∧ (s.readsDone = false → s.eq.records = [])

/-- The staging FIFO holds at most two blocks and never two of one block (R175). -/
abbrev StageSound (s : State) : Prop :=
  s.stage.fifo.length ≤ 2 ∧ (s.stage.fifo.map BlockContent.name).Nodup

/-- The airtime credit is at most the cap in force (R149). -/
abbrev CreditSound (s : State) : Prop := s.rad.credit ≤ s.cfg.radio.cap

/-- A segment has capture fields in POST and FROZEN, and in no other state (R161). -/
def Segment.sound (g : Segment) : Bool :=
  match g.state with
  | .free => g.capture.isNone
  | .recording => g.capture.isNone
  | .post => g.capture.isSome
  | .frozen => g.capture.isSome

/-- At most one segment is RECORDING or in POST, no two segments hold one capture id, and the next id is
one that no segment holds (R162, R163). The ids are judged in layouts of up to four segments, which are
those the CAPTURE block allows (R167). -/
abbrev CaptureSound (s : State) : Prop :=
  (∀ g ∈ s.cap.segments, g.sound = true) ∧ (s.cap.segments.filter Segment.active).length ≤ 1
    ∧ (s.cap.segments.length ≤ 4 →
        (heldIds s.cap.segments).Nodup ∧ s.cap.nextId ∉ heldIds s.cap.segments)

/-- A list of tags is one the table can hold: at most eight, a crew code on crew tags alone, no two
tags of one kind and crew code (R81, R83). -/
def tagsFit (l : List (TagKind × Option Nat)) : Bool :=
  decide (l.length ≤ 8) && l.all (fun e => e.1.crewTag == e.2.isSome) && decide l.Nodup

/-- The tag table is sound. -/
abbrev TagsSound (s : State) : Prop := tagsFit (s.tags.table.map fun e => (e.kind, e.crew)) = true

/-- The tags of the retained record on the chip fit a table, where the record is valid. -/
abbrev ChipTagsSound (s : State) : Prop :=
  s.ret.chip.valid = true → tagsFit (s.ret.chip.content.tags.map fun t => (t.kind, t.crew)) = true

/-- The operation counters are at most 999,999 (R10). -/
abbrev CountersSound (s : State) : Prop :=
  s.meas.counters.a ≤ 999999 ∧ s.meas.counters.b ≤ 999999 ∧ s.meas.counters.c ≤ 999999

/-- The counters of a valid retained record on the chip are at most 999,999. -/
abbrev ChipCountersSound (s : State) : Prop :=
  s.ret.chip.valid = true →
    s.ret.chip.content.counters.a ≤ 999999 ∧ s.ret.chip.content.counters.b ≤ 999999
      ∧ s.ret.chip.content.counters.c ≤ 999999

/-- Two requests share no pole. -/
abbrev StrokeRequest.apart (x y : StrokeRequest) : Prop := x.poles.meets y.poles = false

/-- The waiting trips of the stroke request queue. -/
def waitingTripRequests (s : State) : List StrokeRequest := s.en.queue.filter StrokeRequest.isTrip

/-- The stroke request queue holds at most eight requests, every trip ahead of every close, no two trips
with a common pole, no trip without a pole, attempts 1 and 2 alone; a trip of attempt 1 in flight
shares no pole with a waiting trip of attempt 2 (R63, R64, R72). -/
abbrev StrokeQueueSound (s : State) : Prop :=
  s.en.queue.length ≤ 8
    ∧ s.en.queue = waitingTripRequests s ++ s.en.queue.filter StrokeRequest.isClose
    ∧ (waitingTripRequests s).Pairwise StrokeRequest.apart
    ∧ (∀ r ∈ waitingTripRequests s, r.poles.isEmpty = false ∧ (r.attempt = 1 ∨ r.attempt = 2))
    ∧ (∀ k, s.en.stroke = some k → k.kind = .trip → k.attempt = 1 →
        ∀ r ∈ waitingTripRequests s, r.attempt = 2 → k.poles.meets r.poles = false)

/-- The test load is on in LOADED and in no other test state, a running test holds the charger in TEST_REST
with the power state RUN (R106, R109, R112), and a charger in BULK, ABSORB or FLOAT has its supply (R100). -/
abbrev BatteryTestSound (s : State) : Prop :=
  (s.bat.loadOn = true ↔ s.bat.testState = .loaded)
    ∧ (s.bat.testState.running = true → s.bat.charger = .testRest ∧ s.bat.power = some .run)
    ∧ (s.bat.charger = .testRest → s.bat.testState.running = true)
    ∧ (s.bat.charger ∈ [.bulk, .absorb, .float] → s.meas.supply = true)

/-- The timer that a sequence state runs, if any (R35). -/
def SeqState.timerKind : SeqState → Option SeqTimerKind
  | .rest => none
  | .timing => none
  | .tripping => none
  | .deadTime => some .dead
  | .closeWait => some .closeWait
  | .closing => none
  | .reclaim => some .reclaim
  | .lockout => none

/-- A sequence record runs the timer of its state and no other, has a cause exactly in LOCKOUT and a
timing origin exactly in TIMING, and no element up in LOCKOUT (R35, R37). -/
def SeqRecord.sound (r : SeqRecord) : Bool :=
  decide (r.timer.map SeqTimer.kind = r.state.timerKind)
    && (r.cause.isSome == decide (r.state = .lockout))
    && (r.origin.isSome == decide (r.state = .timing))
    && (decide (r.state ≠ .lockout) || decide (r.up = noElements))

/-- Every sequence record is sound. -/
abbrev RecordsSound (s : State) : Prop := ∀ p, (s.seq.recs.get p).sound = true

/-- A phase or ground element after a set: less than full progress; in IDLE no INST count and no count of
sets; in OPERATED no progress and no INST count (R21, R28, R30, R31). -/
def Element.sound (e : Element) : Bool :=
  decide (e.progress < 1000000)
    && (decide (e.state ≠ .idle) || (decide (e.instCount = 0) && decide (e.sets = 0)))
    && (decide (e.state ≠ .operated) || (decide (e.progress = 0) && decide (e.instCount = 0)))

/-- Every element of the overcurrent unit is sound. -/
abbrev ElementsSound (s : State) : Prop :=
  (∀ p, (s.oc.phase.get p).sound = true) ∧ s.oc.ground.sound = true

/-! ## Settings within their ranges -/

/-- A curve whose points are in order: multiples rising (R16). -/
abbrev CurveRising (c : Curve) : Prop := c.Pairwise fun p q => p.m16 < q.m16

/-- A curve whose times do not rise (R16). -/
abbrev CurveFalling (c : Curve) : Prop := c.Pairwise fun p q => q.t ≤ p.t

/-- The settings of an operation are in range, each curve named one that is filled (R19). -/
def OpSettings.inRange (filled : Nat → Bool) (o : OpSettings) : Bool :=
  filled o.phaseCurve && filled o.groundCurve && decide (o.phaseCurve < 12 ∧ o.groundCurve < 12)
    && decide (5 ≤ o.tm ∧ o.tm ≤ 1000) && decide (o.adder ≤ 2000)
    && decide (32 ≤ o.instMult ∧ o.instMult ≤ 640) && decide (o.instDelay ≤ 200)

/-- A PROTECTION block is in range (R19, R62). -/
def Protection.inRange (filled : Nat → Bool) (p : Protection) : Bool :=
  decide (10 ≤ p.ip ∧ p.ip ≤ 1600) && decide (5 ≤ p.gp ∧ p.gp ≤ 800)
    && decide (10 ≤ p.hotPickup ∧ p.hotPickup ≤ 1600)
    && decide (1 ≤ p.opsToLockout ∧ p.opsToLockout ≤ 4)
    && decide (100 ≤ p.resetTime ∧ p.resetTime ≤ 60000)
    && decide (200 ≤ p.dead1 ∧ p.dead1 ≤ 180000) && decide (200 ≤ p.dead2 ∧ p.dead2 ≤ 180000)
    && decide (200 ≤ p.dead3 ∧ p.dead3 ≤ 180000) && decide (5000 ≤ p.reclaim ∧ p.reclaim ≤ 180000)
    && decide (p.maintenance ≤ 999999)
    && decide (3000 ≤ p.trip1 ∧ p.trip1 ≤ p.trip2 ∧ p.trip2 ≤ p.trip3 ∧ p.trip3 ≤ 8000)
    && decide (4600 ≤ p.close1 ∧ p.close1 ≤ p.close2 ∧ p.close2 ≤ p.close3 ∧ p.close3 ≤ 9600)
    && decide (p.trip1 + 1600 ≤ p.close1 ∧ p.trip2 + 1600 ≤ p.close2 ∧ p.trip3 + 1600 ≤ p.close3)
    && p.op1.inRange filled && p.op2.inRange filled && p.op3.inRange filled && p.op4.inRange filled

/-- A curve is in range: empty, or 2 to 20 points in their ranges and in order (R16). -/
def curveInRange (c : Curve) : Bool :=
  decide (c.length ≠ 1 ∧ c.length ≤ 20)
    && c.all (fun p => decide (16 ≤ p.m16 ∧ p.m16 ≤ 640 ∧ 10 ≤ p.t ∧ p.t ≤ 600000))
    && decide (CurveRising c) && decide (CurveFalling c)

/-- A BATTERY block is in range (R105). -/
def BatterySettings.inRange (b : BatterySettings) : Bool :=
  decide (2640 ≤ b.float25 ∧ b.float25 ≤ 2760) && decide (2760 ≤ b.absorb25 ∧ b.absorb25 ≤ 2940)
    && decide (50 ≤ b.bulk ∧ b.bulk ≤ 1000) && decide (30 ≤ b.absorbMin ∧ b.absorbMin ≤ 480)
    && decide (10 ≤ b.tail ∧ b.tail ≤ 200) && decide (b.k ≤ 60) && decide (b.testPeriod ≤ 720)
    && decide (20 ≤ b.rLimit ∧ b.rLimit ≤ 500) && decide (2100 ≤ b.vMin ∧ b.vMin ≤ 2400)

/-- A RADIO block is in range, its cap at least the cost of the longest packet (R158). -/
def RadioSettings.inRange (r : RadioSettings) : Bool :=
  decide (1 ≤ r.own ∧ r.own ≤ 65534) && decide (1 ≤ r.master ∧ r.master ≤ 65534)
    && decide (r.master ≠ r.own) && decide (r.bitRate ∈ [1200, 2400, 4800, 9600, 19200])
    && decide (20 ≤ r.keyOverhead ∧ r.keyOverhead ≤ 500) && decide (r.refill ≤ 1000)
    && decide (1000 ≤ r.cap ∧ r.cap ≤ 60000) && decide (packetCost r 200 ≤ r.cap)
    && decide (r.statusPeriod = 0 ∨ 60 ≤ r.statusPeriod ∧ r.statusPeriod ≤ 86400)
    && decide (2 ≤ r.ackBase ∧ r.ackBase ≤ 60) && decide (r.filter < 2 ^ 25)

/-- A roster is in range: at most 32 entries, codes 1 to 9,999, no code twice (R79). -/
def rosterInRange (l : List RosterEntry) : Bool :=
  decide (l.length ≤ 32) && l.all (fun e => decide (1 ≤ e.code ∧ e.code ≤ 9999))
    && decide (l.map RosterEntry.code).Nodup

/-- A CAPTURE block is in range for the segment size of its count (R167). -/
def CaptureSettings.inRange (c : CaptureSettings) : Bool :=
  decide (c.segments = 2 ∨ c.segments = 4)
    && decide (8 ≤ c.pre ∧ c.pre ≤ 512 / c.segments - 8)
    && decide (8 ≤ c.post ∧ c.post ≤ 512 / c.segments - c.pre)

/-- The content of a block is in range by its owner's rule, given the curves that are filled and the
curves that may not be emptied. -/
def BlockContent.inRange (filled named : Nat → Bool) : BlockContent → Bool
  | .protection p => p.inRange filled
  | .curve n c => curveInRange c && (!c.isEmpty || !named n.val)
  | .battery b => b.inRange
  | .radio r => r.inRange
  | .roster r => rosterInRange r
  | .capture c => c.inRange

/-! ## The field a refused block names (R16, R17, R19, R62, R79, R105, R158, R167, section 12.6) -/

/-- The value of a field lies outside the range listed for its index. -/
def outsideListed (ranges : List (Nat × Nat)) (v : List Nat) (i : Nat) : Bool :=
  ranges[i]?.any fun r => decide (v.getD i 0 < r.1) || decide (r.2 < v.getD i 0)

/-- The ranges of one operation's fields (R19). -/
def opRanges : List (Nat × Nat) :=
  [(0, 11), (0, 11), (5, 1000), (0, 2000), (0, 1), (0, 1), (32, 640), (0, 200)]

/-- The ranges of the PROTECTION block's fields (R19, R62). -/
def protectionRanges : List (Nat × Nat) :=
  [(10, 1600), (5, 800), (10, 1600), (1, 4), (0, 1), (100, 60000), (200, 180000), (200, 180000),
    (200, 180000), (5000, 180000), (0, 1), (0, 1), (0, 999999), (3000, 8000), (3000, 8000),
    (3000, 8000), (4600, 9600), (4600, 9600), (4600, 9600)]
    ++ opRanges ++ opRanges ++ opRanges ++ opRanges

/-- The ranges of the BATTERY block's fields (R105). -/
def batteryRanges : List (Nat × Nat) :=
  [(2640, 2760), (2760, 2940), (50, 1000), (30, 480), (10, 200), (0, 60), (0, 720), (20, 500),
    (2100, 2400)]

/-- The ranges of the RADIO block's fields; the listed rates, the period of 0 and the relations are judged
beside them (R158). -/
def radioRanges : List (Nat × Nat) :=
  [(1, 65534), (1, 65534), (1200, 19200), (20, 500), (0, 1000), (1000, 60000), (0, 86400), (2, 60),
    (0, 33554431)]

/-- The field of this index in a PROTECTION block is in error: out of its range, a curve id that names an
empty curve, or a level against the level of one pole fewer or the trip level of as many poles. -/
def protectionWrong (filled : Nat → Bool) (v : List Nat) (i : Nat) : Bool :=
  let value := fun (j : Nat) => v.getD j 0
  outsideListed protectionRanges v i
    || (decide (i ∈ [19, 20, 27, 28, 35, 36, 43, 44]) && !filled (value i))
    || (decide (i ∈ [14, 15, 17, 18]) && decide (value i < value (i - 1)))
    || (decide (i ∈ [16, 17, 18]) && decide (value i < value (i - 3) + 1600))

/-- The field of this index in a CURVE block is in error: the count, or a point out of its ranges or out of
order with the point before it. -/
def curveWrong (named : Bool) (count : Nat) (points : Curve) : Nat → Bool
  | 0 => decide (count = 1) || decide (20 < count) || (decide (count = 0) && named)
  | k + 1 => points[k]?.any fun p =>
      decide (p.m16 < 16 ∨ 640 < p.m16 ∨ p.t < 10 ∨ 600000 < p.t)
        || (decide (0 < k) && points[k - 1]?.any fun q => decide (p.m16 ≤ q.m16 ∨ q.t < p.t))

/-- The field of this index in a RADIO block is in error. -/
def radioWrong (v : List Nat) (i : Nat) : Bool :=
  let value := fun (j : Nat) => v.getD j 0
  outsideListed radioRanges v i
    || (decide (i = 1) && decide (value 1 = value 0))
    || (decide (i = 2) && decide (value 2 ∉ [1200, 2400, 4800, 9600, 19200]))
    || (decide (i = 5) && decide (value 5 < packetCost (radioOf v) 200))
    || (decide (i = 6) && decide (0 < value 6 ∧ value 6 < 60))

/-- The field of this index in a ROSTER block is in error: the count, or an entry's code, flag or a code
given before. -/
def rosterWrong (count : Nat) (l : List (Nat × Nat)) : Nat → Bool
  | 0 => decide (32 < count)
  | k + 1 => l[k]?.any fun e =>
      decide (e.1 < 1 ∨ 9999 < e.1 ∨ 1 < e.2) || decide (e.1 ∈ (l.take k).map Prod.fst)

/-- The field of this index in a CAPTURE block is in error, against the segment size of the count written. -/
def captureWrong (v : List Nat) : Nat → Bool
  | 0 => decide (v.getD 0 0 ≠ 2 ∧ v.getD 0 0 ≠ 4)
  | 1 => decide (v.getD 1 0 < 8 ∨ 512 / v.getD 0 0 - 8 < v.getD 1 0)
  | 2 => decide (v.getD 2 0 < 8 ∨ 512 / v.getD 0 0 - v.getD 1 0 < v.getD 2 0)
  | _ => false

/-- The field of this index in a block's bytes is in error by its owner's rule. -/
def fieldWrong (filled named : Nat → Bool) (b : BlockName) (bytes : List Byte) (i : Nat) : Bool :=
  match b with
  | .protection => protectionWrong filled (readFields protectionWidths bytes) i
  | .curve n => curveWrong (named n.val) (countByte bytes) (readPoints (countByte bytes) (bytes.drop 1)) i
  | .battery => outsideListed batteryRanges (readFields batteryWidths bytes) i
  | .radio => radioWrong (readFields radioWidths bytes) i
  | .roster => rosterWrong (countByte bytes) (readRoster (countByte bytes) (bytes.drop 1)) i
  | .capture => captureWrong (readFields captureWidths bytes) i

end Sys2Proof.Machine
end

