-- ==== Sys2Proof/Certificates/Slice0/Obligations.lean ====
section
/-! DEFINITION. The statements for the provers, in the order of the spec's chapters. Each docstring names the
rules of spec/ that its clauses follow. -/

open Sys2Proof Sys2Proof.Machine

/-! ## The machine as a whole -/

/-- One step takes the command at the front of the queue and runs it with the queue's rest; with no
command waiting the part idles, which is the model's choice (log entry 1). -/
def Obligations.StepTakesFrontCommand : Prop :=
  (∀ (c : Instr) (rest : List Instr) (s : State),
      step { s with pending := c :: rest } = exec c { s with pending := rest })
    ∧ ∀ s : State, s.pending = [] → step s = .next s

/-- Every command has an effect in every state: it answers a next state, and leaves the queue of waiting
commands alone.

While the part is stopped by the reset pin or DARK, a command that does not start or stop it changes
nothing (R119, R126).

That commands find a stopped part unchanged, and that they wait on through a stop, is the model's
reading (log entries 26 and 55). -/
def Obligations.EveryCommandCompletes : Prop :=
  (∀ (c : Instr) (s : State), ∃ t, exec c s = .next t ∧ t.pending = s.pending)
    ∧ (∀ (c : Instr) (s : State), s.power ≠ .running → c.startsOrStops = false → exec c s = .next s)

/-- The state after reset, where the spec gives the value: the time base is at 0 and not synced (R12), no
delivery has been made (R4), every element is IDLE (R21), the charger of the bank is HELD at 0 V with an
empty queue, no stroke and no settle time (R78), the optical port is empty (R98), the battery charger is
OFF and the test IDLE with no power state (R99, R106, R116), the store is IDLE and GOOD (R121, R123), the
queue is empty and ARMED with no fetch (R141, R143, R144), the radio is OFF with no credit (R159), and no
attention flag is set or masked (R172).

The state right after reset meets every invariant that the statements below say each step keeps.

The second clause is about the whole of State.reset, with the values the model chose where the spec
gives none (log entries 2, 3, 36 and 39). -/
def Obligations.ResetLeavesASoundPart : Prop :=
  (State.reset.clock = { seconds := 0, ms := 0, synced := false }
     ∧ State.reset.meas.delivered = false ∧ State.reset.meas.settled = false
     ∧ (∀ p, State.reset.oc.phase.get p = { state := .idle, progress := 0, instCount := 0, sets := 0 })
     ∧ State.reset.oc.ground = { state := .idle, progress := 0, instCount := 0, sets := 0 }
     ∧ State.reset.oc.armed = false ∧ State.reset.seq.blockedSeen = false
     ∧ State.reset.en.charger = .held ∧ State.reset.en.bank = 0 ∧ State.reset.en.queue = []
     ∧ State.reset.en.stroke = none ∧ State.reset.en.settle = none
     ∧ State.reset.opt.openBytes = [] ∧ State.reset.opt.buffer = [] ∧ State.reset.opt.sending = none
     ∧ State.reset.opt.overrun = false
     ∧ State.reset.bat.charger = .off ∧ State.reset.bat.testState = .idle
     ∧ State.reset.bat.power = none ∧ State.reset.bat.window = none
     ∧ State.reset.ret.writing = none ∧ State.reset.ret.rewrite = false
     ∧ State.reset.ret.suspect = false
     ∧ State.reset.eq.records = [] ∧ State.reset.eq.armed = true ∧ State.reset.eq.fetch = none
     ∧ State.reset.rad.state = .off ∧ State.reset.rad.credit = 0 ∧ State.reset.rad.slot = none
     ∧ State.reset.stage.fifo = []
     ∧ State.reset.cab.flags.toList = [false, false, false, false, false, false, false]
     ∧ State.reset.cab.mask.toList = [false, false, false, false, false, false, false]
     ∧ attentionLine State.reset = false)
    ∧ (ClockSound State.reset ∧ QueueSound State.reset ∧ StageSound State.reset ∧ CreditSound State.reset
         ∧ CaptureSound State.reset ∧ TagsSound State.reset ∧ ChipTagsSound State.reset
         ∧ CountersSound State.reset ∧ ChipCountersSound State.reset ∧ StrokeQueueSound State.reset
         ∧ BatteryTestSound State.reset ∧ RecordsSound State.reset ∧ ElementsSound State.reset
         ∧ (State.reset.ret.writing.isSome = true → State.reset.ret.chip.marker = false))

/-- What DARK and the reset pin leave: every block's working state at its start values; the retained
record and the stored settings blocks survive as they stand (R119, R126). The model's own free-value
counter and its command queue go on.

The cabinet switch and the waiting commands through a stop, and start values the spec does not give, are
the model's (log entries 4, 26, 36 and 55); so is the start from every DARK state, also with the pin
asserted, and the pin without effect in DARK (log entry 73). -/
def Obligations.StartsAndStopsKeepTheStores : Prop :=
  ∀ s : State,
    let kept := fun (power : PartPower) (cause : ResetCause) (switch : Bool) =>
      ({ State.reset with
          power := power, cause := cause, bat := { State.reset.bat with cabinetSwitch := switch },
          ret := { State.reset.ret with chip := s.ret.chip },
          store := { State.reset.store with stored := s.store.stored },
          free := s.free, pending := s.pending } : State)
    (s.power = .running ∨ s.power = .resetHeld → exec .dark s = .next (kept .dark s.cause false))
      ∧ (s.power = .dark → exec .dark s = .next s)
      ∧ (s.power = .running → exec .resetPinAssert s = .next (kept .resetHeld s.cause true))
      ∧ (s.power = .resetHeld ∨ s.power = .dark → exec .resetPinAssert s = .next s)
      ∧ (s.power = .resetHeld → exec .resetPinRelease s = .next (kept .running .resetPin true))
      ∧ (s.power = .running ∨ s.power = .dark → exec .resetPinRelease s = .next s)
      ∧ (s.power = .dark → exec .powerOnStart s = .next (kept .running .powerOn true))
      ∧ (s.power = .running ∨ s.power = .resetHeld → exec .powerOnStart s = .next s)

/-! ## Measurement and time base -/

/-- R1: a set falls due every 2 ms. It carries each magnitude held at 20,000 A with a saturated flag above
it, becomes the latest set, and is handed to the three consumers; nothing else changes.

R3: on a sampling expiry each channel's sample, held within its range, enters its window of ten; a
temperature sample outside -45 to 90 °C does not, and brings SENSOR_FAULT in NORMAL alone (R6); the bank
voltage sample reaches the actuator and energy unit, which judges its charger (R60). A sample enters a window
behind those it holds, and the oldest leaves a window that holds ten.

When a due set or sample is taken, and the number and time that name a set, are the model's (log entries
24 and 25). -/
def Obligations.SetsAndSamplesAreTaken : Prop :=
  (∀ (a b c g : Nat) (s : State), s.power = .running → s.meas.nextSet ≤ s.elapsed →
     let m : MeasSet :=
       { index := s.meas.latest.index + 1, time := s.elapsed,
         mag := { a := min a 20000, b := min b 20000, c := min c 20000, g := min g 20000 },
         sat := { a := decide (a > 20000), b := decide (b > 20000), c := decide (c > 20000),
                  g := decide (g > 20000) } }
     exec (.measurementSet a b c g) s = .next { s with
       meas := { s.meas with latest := m, nextSet := s.meas.nextSet + 2 },
       mail := { s.mail with
         ocSets := s.mail.ocSets ++ [m], seqSets := s.mail.seqSets ++ [m],
         capSets := s.mail.capSets ++ [m] } })
    ∧ ((∀ (w : List Int) (v : Int), w.length < 10 → pushWindow w v = w ++ [v])
         ∧ (∀ (w : List Int) (x v : Int), w.length = 9 → pushWindow (x :: w) v = w ++ [v])
         ∧ ∀ (vBatt iBatt vBank vSupply temp : Int) (s : State),
           s.power = .running → s.meas.nextSample ≤ s.elapsed → s.meas.samples < 10 →
           ∃ t, exec (.samplingTimer vBatt iBatt vBank vSupply temp) s = .next t
             ∧ t.meas = { s.meas with
                 windows :=
                   { vBatt := pushWindow s.meas.windows.vBatt (max 0 (min 4000 vBatt)),
                     iBatt := pushWindow s.meas.windows.iBatt (max (-2000) (min 2000 iBatt)),
                     vBank := pushWindow s.meas.windows.vBank (max 0 (min 12000 vBank)),
                     vSupply := pushWindow s.meas.windows.vSupply (max 0 (min 300 vSupply)),
                     temp :=
                       if temp < -45 ∨ 90 < temp then s.meas.windows.temp
                       else pushWindow s.meas.windows.temp (max (-40) (min 85 temp)) },
                 nextSample := s.meas.nextSample + 100, samples := s.meas.samples + 1,
                 tempFault := s.meas.tempFault || decide (temp < -45 ∨ 90 < temp),
                 tempBad := s.meas.tempBad || decide (temp < -45 ∨ 90 < temp) }
             ∧ (t.en.bank : Int) = max 0 (min 12000 vBank)
             ∧ (s.en.charger = .held → t.en.charger = .held)
             ∧ (s.en.charger = .charging → t.en.charger = if 9600 ≤ vBank then .full else .charging)
             ∧ (s.en.charger = .full → t.en.charger = if vBank < 9200 then .charging else .full)
             ∧ t.mail.raised = s.mail.raised ++
                 (if (temp < -45 ∨ 90 < temp) ∧ s.meas.tempFault = false then
                   [(.measurement, .sensorFault (decide (90 < temp)))] else [])
             ∧ t = { s with meas := t.meas, en := t.en, mail := t.mail })

/-- R4: an average is the sum of the samples divided by their number, rounded to the nearest unit, a half
toward the more positive value.

R4 to R6: the delivery of the tenth sampling expiry hands the five averages together; the supply is
present from an average of 90 V on; the temperature is FAULT after a second with an invalid sample. The
first delivery sets the power state from its average (R116) and completes the start (R130): "started"
reaches the cabinet link controller and the radio controller, which asks for modem power and starts the refill
timer, the status timer for a period that is not 0 and, in RUN, the ready wait (R159); RESTARTED is set.

That the permission of the first power state reaches the radio controller with "started" is the model's
reading (log entry 40). -/
def Obligations.AveragesAreDelivered : Prop :=
  (∀ w : List Int, w ≠ [] →
     2 * w.sum - w.length < 2 * w.length * average w ∧ 2 * w.length * average w ≤ 2 * w.sum + w.length)
    ∧ (∀ s : State, s.power = .running → s.meas.samples = 10 →
         ∃ t, exec .averageDelivery s = .next t
           ∧ t.meas = { s.meas with
               averages :=
                 { vBatt := average s.meas.windows.vBatt, iBatt := average s.meas.windows.iBatt,
                   vBank := average s.meas.windows.vBank, vSupply := average s.meas.windows.vSupply,
                   temp := if s.meas.tempBad then none else some (average s.meas.windows.temp) },
               delivered := true, samples := 0, tempFault := s.meas.tempBad, tempBad := false,
               supply := decide (90 ≤ average s.meas.windows.vSupply) }
           ∧ (s.bat.power = none →
               t.bat.power = some
                   (if 2300 ≤ average s.meas.windows.vBatt then .run
                     else if 2240 ≤ average s.meas.windows.vBatt then .shedRadio
                     else if 2160 ≤ average s.meas.windows.vBatt then .shedHost else .holdover)
                 ∧ t.cab.started = true ∧ t.cab.flags.restarted = true
                 ∧ t.rad = { s.rad with
                     request := true, permitted := decide (2300 ≤ average s.meas.windows.vBatt),
                     refillTimer := some (s.elapsed + 1000),
                     statusTimer := if s.cfg.radio.statusPeriod = 0 then none
                       else some (s.elapsed + s.cfg.radio.statusPeriod * 1000),
                     readyWait := if 2300 ≤ average s.meas.windows.vBatt then some (s.elapsed + 5000)
                       else none })
           ∧ (s.bat.power ≠ none → t.cab = s.cab ∧ t.rad = s.rad)
           ∧ t = { s with
               meas := t.meas, en := t.en, bat := t.bat, rad := t.rad, cab := t.cab, mail := t.mail })

/-- R7, R8: an input that has stood at its other level for 10 ms changes. A lever change is handed to the
sequence controller and the actuator and energy unit, a selector change is kept; a contact change that
makes the contacts of its pole disagree stops the agreement timer and gives CLOSED or OPEN at once, one
that makes them agree starts the timer with 200 ms and keeps the pole state. A shorter excursion changes
nothing.

R10: an opening, brought by a debounced contact change, is counted when the pole becomes OPEN with
CLOSED as its last definite state, held at 999,999; COUNTER_ALARM is raised when the count crosses the
threshold in force, which 0 turns off, and a rewrite is requested; the change of state is handed to the
sequence controller and the actuator and energy unit (R8).

R8, R10: a debounced contact change that makes the pole CLOSED makes CLOSED its last definite state and
is handed to the sequence controller and the actuator and energy unit; nothing is counted. One that leaves
the pole state as it was only stops the agreement timer.

R8: the agreement timer of a pole expires: the pole is UNKNOWN, its last definite state and its count
stay (R10), and one POLE_UNKNOWN event says whether both contacts are closed. Before the expiry nothing
happens.

R7, R9: 10 ms after start each input takes its raw level, each pole its state by the contacts, UNKNOWN
at once with an event where they agree, and no opening is counted.

That a change comes with the time the level has stood, when a due timer is taken, and that the inputs'
settling gives the actuator and energy unit its view, are the model's (log entries 24, 49 and 53). -/
def Obligations.FieldInputsAndPoleStatesChange : Prop :=
  (∀ (f : FieldInput) (level : Bool) (stood : Nat) (s : State), s.power = .running →
     (stood < 10 ∨ s.meas.settled = false ∨ inputLevel s.meas.inputs f = level →
         exec (.debouncedInputChange f level stood) s = .next s)
       ∧ (10 ≤ stood → s.meas.settled = true → inputLevel s.meas.inputs f ≠ level →
           ∃ t, exec (.debouncedInputChange f level stood) s = .next t
             ∧ inputLevel t.meas.inputs f = level
             ∧ (∀ g, g ≠ f → inputLevel t.meas.inputs g = inputLevel s.meas.inputs g)
             ∧ (f = .lever → t = { s with
                 meas := { s.meas with inputs := t.meas.inputs },
                 mail := { s.mail with
                   seqLever := s.mail.seqLever ++ [level], enLever := s.mail.enLever ++ [level] } })
             ∧ (f = .selector → t = { s with meas := { s.meas with inputs := t.meas.inputs } })
             ∧ (∀ p, f = .contactA p ∨ f = .contactB p →
                 (t.meas.inputs.contactA.get p = t.meas.inputs.contactB.get p →
                     t = { s with meas := { s.meas with
                       inputs := t.meas.inputs,
                       agree := s.meas.agree.set p (some (s.elapsed + 200)) } })
                   ∧ (t.meas.inputs.contactA.get p ≠ t.meas.inputs.contactB.get p →
                       t.meas.pole = s.meas.pole.set p
                           (if t.meas.inputs.contactA.get p then .closed else .opened)
                         ∧ t.meas.agree = s.meas.agree.set p none
                         ∧ t = { s with
                             meas := t.meas, mail := t.mail, ret := t.ret, tags := t.tags, en := t.en }))))
    ∧ (∀ (f : FieldInput) (level : Bool) (stood : Nat) (p : Pole) (s : State), s.power = .running →
         10 ≤ stood → s.meas.settled = true → inputLevel s.meas.inputs f ≠ level →
         f = .contactA p ∨ f = .contactB p →
         (setInput s.meas.inputs f level).contactA.get p = false →
         (setInput s.meas.inputs f level).contactB.get p = true → s.meas.pole.get p ≠ .opened →
         let count := min 999999 (s.meas.counters.get p + 1)
         let threshold := s.cfg.prot.maintenance
         ∃ t, exec (.debouncedInputChange f level stood) s = .next t
           ∧ t.meas.lastDefinite = s.meas.lastDefinite.set p (some .opened)
           ∧ t.mail.seqPoles = s.mail.seqPoles ++ [(p, .opened)]
           ∧ t.mail.enPoles = s.mail.enPoles ++ [(p, .opened)]
           ∧ (s.meas.lastDefinite.get p = some .closed →
               t.meas.counters = s.meas.counters.set p count
                 ∧ t.mail.raised = s.mail.raised ++
                     (if threshold ≠ 0 ∧ s.meas.counters.get p < threshold ∧ threshold ≤ count then
                       [(.measurement, .counterAlarm p count threshold)] else [])
                 ∧ t.ret.writing.isSome = true)
           ∧ (s.meas.lastDefinite.get p ≠ some .closed →
               t.meas.counters = s.meas.counters ∧ t.mail.raised = s.mail.raised ∧ t.ret = s.ret))
    ∧ (∀ (f : FieldInput) (level : Bool) (stood : Nat) (p : Pole) (s : State), s.power = .running →
         10 ≤ stood → s.meas.settled = true → inputLevel s.meas.inputs f ≠ level →
         f = .contactA p ∨ f = .contactB p →
         let inputs := setInput s.meas.inputs f level
         let shown : PoleState := if inputs.contactA.get p = true then .closed else .opened
         inputs.contactA.get p ≠ inputs.contactB.get p →
         (s.meas.pole.get p ≠ .closed → shown = .closed →
             exec (.debouncedInputChange f level stood) s = .next { s with
               meas := { s.meas with
                 inputs := inputs, agree := s.meas.agree.set p none,
                 pole := s.meas.pole.set p .closed,
                 lastDefinite := s.meas.lastDefinite.set p (some .closed) },
               mail := { s.mail with
                 seqPoles := s.mail.seqPoles ++ [(p, .closed)],
                 enPoles := s.mail.enPoles ++ [(p, .closed)] } })
           ∧ (s.meas.pole.get p = shown →
               exec (.debouncedInputChange f level stood) s = .next { s with
                 meas := { s.meas with inputs := inputs, agree := s.meas.agree.set p none } }))
    ∧ (∀ (p : Pole) (d : Nat) (s : State), s.power = .running → s.meas.agree.get p = some d →
         (d ≤ s.elapsed →
             exec (.poleUnknown p) s = .next { s with
               meas := { s.meas with
                 agree := s.meas.agree.set p none, pole := s.meas.pole.set p .unknown },
               mail := { s.mail with
                 seqPoles := s.mail.seqPoles ++
                   (if s.meas.pole.get p = .unknown then [] else [(p, .unknown)]),
                 enPoles := s.mail.enPoles ++
                   (if s.meas.pole.get p = .unknown then [] else [(p, .unknown)]),
                 raised := s.mail.raised ++
                   [(.measurement, .poleUnknown p (s.meas.inputs.contactA.get p))] } })
           ∧ (s.elapsed < d → exec (.poleUnknown p) s = .next s))
    ∧ (∀ (l : InputLevels) (s : State), s.power = .running → 10 ≤ s.elapsed → s.meas.settled = false →
         ∃ t, exec (.inputsSettled l) s = .next t
           ∧ t.meas = { s.meas with
               settled := true,
               inputs := { contactA := l.contactA, contactB := l.contactB, leverTripped := l.lever,
                           selectorRemote := l.selector },
               pole := Tri.of fun p =>
                 if l.contactA.get p = l.contactB.get p then .unknown
                 else if l.contactA.get p then .closed else .opened,
               lastDefinite := Tri.of fun p =>
                 if l.contactA.get p = l.contactB.get p then none
                 else if l.contactA.get p then some .closed else some .opened }
           ∧ (∀ p, l.contactA.get p = l.contactB.get p →
               (.measurement, .poleUnknown p (l.contactA.get p)) ∈ t.mail.raised)
           ∧ t.en = { s.en with view := t.meas.pole }
           ∧ t = { s with
               meas := t.meas, en := t.en, mail := t.mail, seq := t.seq, free := t.free })

/-- R12: the milliseconds count advances by one, the seconds count when 1,000 would be reached, from
4,294,967,295 to 0. The elapsed time that every timer runs on advances with it.

R13: a setting with more than 999 ms is refused with BAD_VALUE and changes nothing; a valid one takes
effect at its arrival, makes SYNCED true, and raises one TIME_SET event with its source and what was held
before. TIME_SET is answered at once; the result of TIME_SYNC enters the reply slot and the send order is
judged.

A BAD_VALUE without a field index is the model's reading (log entry 9). -/
def Obligations.TimeBaseCountsAndIsSet : Prop :=
  (∀ s : State, s.power = .running → ClockSound s →
     exec .timeBaseTick s = .next { s with
       elapsed := s.elapsed + 1,
       clock := { s.clock with
         ms := if s.clock.ms = 999 then 0 else s.clock.ms + 1,
         seconds :=
           if s.clock.ms = 999 then
             (if s.clock.seconds = 4294967295 then 0 else s.clock.seconds + 1)
           else s.clock.seconds } })
    ∧ (∀ (tag : Byte) (seconds : Wide) (word : Half) (s : State),
         let set := fun (source : CmdSource) =>
           withRecord .timeBase (.timeSet source s.clock)
             { s with clock := { seconds := seconds.toNat, ms := word.toNat % 1024, synced := true } }
         (Ready s →
             exec (.timeSet tag seconds word) s =
               if 999 < word.toNat % 1024 then .next (replied 17#8 tag .badValue (.badField none) s)
               else .next (replied 17#8 tag .ok .nothing (set .cabinet)))
           ∧ (Hearing s →
               exec (.timeSync tag seconds word) s =
                 if 999 < word.toNat % 1024 then .next (judgeSend (withSlot 6#8 tag .badValue none s))
                 else .next (judgeSend (withSlot 6#8 tag .ok none (set .radio)))))

/-- R11: COUNTER_READ is answered with the three counters and the threshold in force. COUNTER_SET refuses a
pole outside A, B and C with BAD_INDEX and a value above 999,999 with BAD_VALUE; an accepted one sets the
counter, requests a rewrite and leaves the reply owed.

R77: POLE_FAIL_CLEAR is refused BAD_INDEX outside A, B and C and REFUSED_STATE for a pole in UNKNOWN,
answered OK for a pole with no mark, and otherwise clears the mark, requests a rewrite and leaves the reply
owed.

A BAD_VALUE without a field index, the check of the pole before that of the value, and that of UNKNOWN
before that of the mark, are the model's (log entries 9, 62 and 87). -/
def Obligations.CountersAndMarksAreSet : Prop :=
  (∀ (tag pole : Byte) (value : Wide) (s : State), Ready s →
     exec (.counterRead tag) s
         = .next (replied 18#8 tag .ok (.counters s.meas.counters s.cfg.prot.maintenance) s)
       ∧ (3 ≤ pole.toNat →
           exec (.counterSet tag pole value) s = .next (replied 19#8 tag .badIndex .nothing s))
       ∧ (pole.toNat < 3 → 999999 < value.toNat →
           exec (.counterSet tag pole value) s = .next (replied 19#8 tag .badValue (.badField none) s))
       ∧ (∀ p, pole.toNat = poleCode p → value.toNat ≤ 999999 →
           exec (.counterSet tag pole value) s = .next (requestRewrite { owing 19#8 tag s with
             meas := { s.meas with
               counters := s.meas.counters.set p value.toNat,
               owed := s.meas.owed ++ [{ request := s.cab.nextRequest, covered := false }] } })))
    ∧ (∀ (tag pole : Byte) (s : State), Ready s →
         (3 ≤ pole.toNat →
             exec (.poleFailClear tag pole) s = .next (replied 16#8 tag .badIndex .nothing s))
           ∧ ∀ p, pole.toNat = poleCode p →
               (s.en.view.get p = .unknown →
                   exec (.poleFailClear tag pole) s
                     = .next (replied 16#8 tag .refusedState .nothing s))
                 ∧ (s.en.view.get p ≠ .unknown → s.en.failed.get p = false →
                     exec (.poleFailClear tag pole) s = .next (replied 16#8 tag .ok .nothing s))
                 ∧ (s.en.view.get p ≠ .unknown → s.en.failed.get p = true →
                     exec (.poleFailClear tag pole) s = .next (requestRewrite { owing 16#8 tag s with
                       en := { s.en with
                         failed := s.en.failed.set p false,
                         owed := s.en.owed ++ [{ request := s.cab.nextRequest, covered := false }] } })))

/-! ## Overcurrent elements -/

/-- R24: the multiple is floor(16 × I / pickup) held at 640, against Ip for a phase element and Gp for the
ground element; a saturated channel carries 20,000 A; the multiple plays no part in an element that is
OPERATED, or IDLE on a set below its pickup.

R26: on a curve whose multiples rise and whose times do not, the curve time is the first point's at or
below the first multiple, the last point's at or above the last, and between two successive points the
straight line, an exact half going to the larger time; it lies between their times.

R27: the curve time times TM over 100 is rounded to the nearest millisecond with halves up, the adder
is added and the sum is held within 10 to 600,000 ms; it is computed afresh on every set from that set's
multiple. -/
def Obligations.OperateTimeFollowsTheCurve : Prop :=
  ((∀ i pickup, multipleOf i pickup = if 640 < 16 * i / pickup then 640 else 16 * i / pickup)
     ∧ (∀ cfg op i, (phaseTiming cfg op i).m16 = multipleOf i cfg.prot.ip)
     ∧ (∀ cfg op i, (groundTiming cfg op i).m16 = multipleOf i cfg.prot.gp)
     ∧ (∀ n, 20000 < n → heldMagnitude n = 20000)
     ∧ ∀ (prot : Protection) (t u : Timing) (i pickup : Nat) (el : Element),
         el.state = .operated ∨ (el.state = .idle ∧ i < pickup) →
         evaluateElement prot t i pickup el = evaluateElement prot u i pickup el)
    ∧ (∀ (c : Curve), CurveRising c → CurveFalling c → ∀ m : Nat,
         (∀ p ps, c = p :: ps → m ≤ p.m16 → curveTime m c = p.t)
           ∧ (∀ ps p, c = ps ++ [p] → p.m16 ≤ m → curveTime m c = p.t)
           ∧ (∀ ps p q qs, c = ps ++ p :: q :: qs → m = q.m16 → curveTime m c = q.t)
           ∧ (∀ ps p q qs, c = ps ++ p :: q :: qs → p.m16 < m → m < q.m16 →
               let n := (m - p.m16) * (p.t - q.t)
               let d := q.m16 - p.m16
               curveTime m c = (if d < 2 * (n - n / d * d) then p.t - n / d - 1 else p.t - n / d)
                 ∧ q.t ≤ curveTime m c ∧ curveTime m c ≤ p.t))
    ∧ ((∀ (t : Nat) (o : OpSettings),
           let x := t * o.tm
           let sum := x / 100 + (if 50 ≤ x % 100 then 1 else 0) + o.adder
           effectiveTime t o = if sum < 10 then 10 else if 600000 < sum then 600000 else sum)
         ∧ ∀ (t : Timing) (progress : Nat), 16 ≤ t.m16 →
             progressAfter t progress
               = progress + 2000000 / effectiveTime (curveTime t.m16 t.curve) t.op)

/-- R25, R28, R30: an IDLE element picks up at its pickup and times that set at once; a PICKED_UP element
stays up at or above floor(pickup × 95 / 100), counting the set, and otherwise drops out with its count.
INST operates when its multiple is reached on the required number of sets in a row, TOC when progress
reaches 1,000,000, INST alone when both do; an element that operates holds no progress and no INST
count (R31). -/
def Obligations.ElementTimesASet : Prop :=
  ∀ (prot : Protection) (t : Timing) (i pickup : Nat) (el : Element),
    let x := evaluateElement prot t i pickup el
    let count := if t.op.instOn = true ∧ t.op.instMult ≤ t.m16 then el.instCount + 1 else 0
    let inst := t.op.instOn = true ∧ t.op.instMult ≤ t.m16 ∧ max 1 ((t.op.instDelay + 1) / 2) ≤ count
    let progress :=
      if 16 ≤ t.m16 then
        el.progress + 2000000 / effectiveTime (curveTime t.m16 t.curve) t.op
      else el.progress
    let up := (el.state = .idle ∧ pickup ≤ i)
      ∨ (el.state = .pickedUp ∧ pickup * 95 / 100 ≤ i)
    (up → x.drop = none ∧ (x.pickup = true ↔ el.state = .idle)
        ∧ x.el.sets = (if el.state = .idle then 1 else min 65535 (el.sets + 1))
        ∧ (inst → x.operate = some true)
        ∧ (¬ inst → 1000000 ≤ progress → x.operate = some false)
        ∧ (inst ∨ 1000000 ≤ progress →
            x.el.state = .operated ∧ x.el.progress = 0 ∧ x.el.instCount = 0)
        ∧ (¬ inst → progress < 1000000 →
            x.operate = none ∧ x.el.state = .pickedUp ∧ x.el.progress = progress
              ∧ x.el.instCount = count))
      ∧ (el.state = .pickedUp → i < pickup * 95 / 100 →
          x.drop = some (false, el.sets) ∧ x.pickup = false ∧ x.operate = none
            ∧ x.el.state = .idle ∧ x.el.sets = 0 ∧ x.el.instCount = 0)
      ∧ (el.state = .idle → i < pickup →
          x.drop = none ∧ x.pickup = false ∧ x.operate = none ∧ x.el.state = .idle)
      ∧ (el.state = .operated →
          x.el = el ∧ x.drop = none ∧ x.pickup = false ∧ x.operate = none)

/-- R29: on a set on which an evaluated element is IDLE its accumulator goes to 0 in INSTANT mode and
falls by floor(2,000,000 / reset time), no lower than 0, in DECAY mode, the drop-out set included; a held
element's is 0, and in the hysteresis band it is kept. -/
def Obligations.ResetModeDrainsProgress : Prop :=
  ∀ (prot : Protection) (t : Timing) (i pickup : Nat) (el : Element),
    let after := (evaluateElement prot t i pickup el).el.progress
    ((el.state = .idle ∧ i < pickup) ∨ (el.state = .pickedUp ∧ i < pickup * 95 / 100) →
        (prot.resetMode = .instant → after = 0)
          ∧ (prot.resetMode = .decay →
              after = if el.progress < 2000000 / prot.resetTime then 0
                else el.progress - 2000000 / prot.resetTime))
      ∧ (holdElement el).el.progress = 0
      ∧ (el.state = .pickedUp → pickup * 95 / 100 ≤ i → i < pickup → t.m16 = multipleOf i pickup →
          32 ≤ t.op.instMult → el.progress < 1000000 → after = el.progress)

/-- R23, R18: an element times on the settings of its operation, those of operation 4 from there on, a phase
element on the phase curve and the ground element on the ground curve; in place of an empty curve it takes
the factory table of curve 1.

R21 to R23, R33: the overcurrent unit takes the oldest set handed to it. A set that comes before the
records exist is not evaluated. Otherwise each phase element whose record is in REST, TIMING or RECLAIM is
evaluated on its operation's settings, every other one is held, IDLE with all counts 0. The ground element
is evaluated while some record is in those states, and in SINGLE mode while none is in DEAD_TIME, CLOSE_WAIT
or CLOSING, on the operation one above the highest shot count among them. The entries are those of the
pickups, drop-outs and operations of these elements, the drop-out with cause HELD of a held one that was
PICKED_UP, and the pickup and operation of each hot-line part that operates, and no other; a ground entry
concerns those poles, and a ground operation calls all three to trip. One result with them goes to the
sequence controller, none when no element reported. Nothing else changes.

R34: the leading OPERATE entry is one of the result's, none before it in the order HOT_LINE,
PHASE_INST, GROUND_INST, PHASE_TOC, GROUND_TOC, and the first of its name.

That a set before the records exist is taken and dropped is the model's reading (log entry 53). -/
def Obligations.OvercurrentEvaluatesASet : Prop :=
  (∀ (cfg : InForce) (op i : Nat), 1 ≤ op →
     let o := if op = 1 then cfg.prot.op1 else if op = 2 then cfg.prot.op2
       else if op = 3 then cfg.prot.op3 else cfg.prot.op4
     let factory : Curve := [⟨16, 30000⟩, ⟨24, 12000⟩, ⟨32, 7200⟩, ⟨48, 4200⟩, ⟨64, 3000⟩, ⟨96, 1800⟩,
       ⟨128, 1300⟩, ⟨192, 900⟩, ⟨320, 600⟩, ⟨640, 450⟩]
     (phaseTiming cfg op i).op = o ∧ (groundTiming cfg op i).op = o
       ∧ ∀ id : Fin 12,
           let curve := if cfg.curves.get id = [] then factory else cfg.curves.get id
           (o.phaseCurve = id.val → (phaseTiming cfg op i).curve = curve)
             ∧ (o.groundCurve = id.val → (groundTiming cfg op i).curve = curve))
    ∧ (∀ (m : MeasSet) (rest : List MeasSet) (s : State), s.power = .running → s.mail.ocSets = m :: rest →
         let closed := fun (p : Pole) => (s.seq.recs.get p).state.holdsClosed
         let poles : PoleSet := Tri.of closed
         let open_ := fun (p : Pole) => (s.seq.recs.get p).state = .deadTime
           ∨ (s.seq.recs.get p).state = .closeWait ∨ (s.seq.recs.get p).state = .closing
         let held := (∀ p, closed p = false) ∨ (s.cfg.prot.tripMode = .single ∧ ∃ p, open_ p)
         let op := fun (p : Pole) => (s.seq.recs.get p).shot + 1
         let top := (poles.poles.map fun p => (s.seq.recs.get p).shot).foldl max 0 + 1
         let trip := fun (p : Pole) => if s.cfg.prot.tripMode = .single then Tri.single p else Tri.full
         let phase := fun (p : Pole) => evaluateElement s.cfg.prot
           (phaseTiming s.cfg (op p) (m.mag.get p)) (m.mag.get p) s.cfg.prot.ip (s.oc.phase.get p)
         let ground := evaluateElement s.cfg.prot (groundTiming s.cfg top m.mag.g) m.mag.g s.cfg.prot.gp
           s.oc.ground
         let hot := fun (p : Pole) => s.oc.armed = true ∧ closed p = true ∧ s.oc.hot.get p ≠ .operated
           ∧ 0 < s.cfg.prot.hotPickup ∧ s.cfg.prot.hotPickup ≤ m.mag.get p
         let reports := fun (el : ElementId) (ps : PoleSet) (n : Nat) (inst toc : OperateName)
             (set : PoleSet) (x : ElementStep) (e : Report) =>
           (x.pickup = true ∧ e = .pickup el ps n)
             ∨ (∃ sets, x.drop = some (false, sets) ∧ e = .dropOut el ps false sets)
             ∨ (x.operate = some true ∧ e = .operate el ps n inst set)
             ∨ (x.operate = some false ∧ e = .operate el ps n toc set)
         (s.seq.created = false →
             exec .overcurrentEvaluation s = .next { s with mail := { s.mail with ocSets := rest } })
           ∧ (s.seq.created = true →
               ∃ t entries, exec .overcurrentEvaluation s = .next t
                 ∧ t.mail = { s.mail with
                     ocSets := rest,
                     results := if entries = [] then s.mail.results
                       else s.mail.results ++
                         [{ set := m, entries := entries, leading := leadingOperation entries }] }
                 ∧ t.oc.armed = s.oc.armed ∧ t = { s with oc := t.oc, mail := t.mail }
                 ∧ (∀ p, t.oc.phase.get p = if closed p = true then (phase p).el
                     else { state := .idle, progress := 0, instCount := 0, sets := 0 })
                 ∧ (held → t.oc.ground = { state := .idle, progress := 0, instCount := 0, sets := 0 })
                 ∧ (¬ held → t.oc.ground = ground.el)
                 ∧ ∀ e, e ∈ entries ↔
                     (∃ p, closed p = true
                       ∧ reports (.phase p) (Tri.single p) (op p) .phaseInst .phaseToc (trip p) (phase p) e)
                     ∨ (∃ p, closed p = false ∧ (s.oc.phase.get p).state = .pickedUp
                       ∧ e = .dropOut (.phase p) (Tri.single p) true (s.oc.phase.get p).sets)
                     ∨ (¬ held ∧ reports .ground poles top .groundInst .groundToc Tri.full ground e)
                     ∨ (held ∧ s.oc.ground.state = .pickedUp
                       ∧ e = .dropOut .ground poles true s.oc.ground.sets)
                     ∨ ∃ p, hot p ∧ (e = .pickup (.hot p) (Tri.single p) (op p)
                       ∨ e = .operate (.hot p) (Tri.single p) (op p) .hotLine Tri.full)))
    ∧ (∀ entries : List Report,
         let order : List OperateName := [.hotLine, .phaseInst, .groundInst, .phaseToc, .groundToc]
         (leadingOperation entries = none ↔ entries.filterMap Report.operation = [])
           ∧ ∀ x, leadingOperation entries = some x →
               ∃ before after, entries.filterMap Report.operation = before ++ x :: after
                 ∧ (∀ y ∈ before, order.idxOf x.1 < order.idxOf y.1)
                 ∧ ∀ y ∈ after, order.idxOf x.1 ≤ order.idxOf y.1)

/-- R32: "armed" and "disarmed" are taken in the order they were handed; disarmed, every part is IDLE.

R32: a hot-line part that is armed and whose pole's phase element is evaluated operates, and calls all
three poles to trip, on the first set at or above the hot-line pickup; on a set below it, an IDLE part stays
IDLE. Disarmed or held it is IDLE. In no case but that first set does it report a pickup or an operation.

The operation number of a hot-line part is the model's reading (log entry 28). -/
def Obligations.HotLineElementOperates : Prop :=
  (∀ (armed : Bool) (rest : List Bool) (s : State), s.power = .running →
     s.mail.arming = armed :: rest →
     exec .hotLineArming s = .next { s with
       oc := { s.oc with
         armed := armed,
         hot := if armed then s.oc.hot else { a := .idle, b := .idle, c := .idle } },
       mail := { s.mail with arming := rest } })
    ∧ (∀ (m : MeasSet) (rest : List MeasSet) (p : Pole) (s : State), s.power = .running →
         s.mail.ocSets = m :: rest → s.seq.created = true → 0 < s.cfg.prot.hotPickup →
         ∃ t, exec .overcurrentEvaluation s = .next t ∧
         let silent := ∀ r ∈ t.mail.results, r ∈ s.mail.results
           ∨ (∀ ps op, .pickup (.hot p) ps op ∉ r.entries)
             ∧ ∀ ps op name trip, .operate (.hot p) ps op name trip ∉ r.entries
         (s.oc.armed = true → (s.seq.recs.get p).state.holdsClosed = true →
               s.oc.hot.get p ≠ .operated → s.cfg.prot.hotPickup ≤ m.mag.get p →
               t.oc.hot.get p = .operated
                 ∧ ∃ r, t.mail.results = s.mail.results ++ [r] ∧ r.set = m
                   ∧ .pickup (.hot p) (Tri.single p) ((s.seq.recs.get p).shot + 1) ∈ r.entries
                   ∧ .operate (.hot p) (Tri.single p) ((s.seq.recs.get p).shot + 1) .hotLine Tri.full
                       ∈ r.entries
                   ∧ r.leading.map Prod.fst = some .hotLine)
           ∧ (s.oc.armed = false ∨ (s.seq.recs.get p).state.holdsClosed = false →
               t.oc.hot.get p = .idle ∧ silent)
           ∧ (s.oc.armed = true → (s.seq.recs.get p).state.holdsClosed = true →
               s.oc.hot.get p = .idle → m.mag.get p < s.cfg.prot.hotPickup →
               t.oc.hot.get p = .idle ∧ silent)
           ∧ (s.oc.armed = true → (s.seq.recs.get p).state.holdsClosed = true →
               s.oc.hot.get p = .operated → t.oc.hot.get p = .operated ∧ silent))

/-! ## The reclose sequence -/

/-- R43: an OPERATE moves to TRIPPING every record of the union of the trip pole sets that is in REST, TIMING or
RECLAIM, with its timer stopped, its elements up cleared, the leading name as its last operating element and
a trip in hand; one trip request for those poles, with origin PROTECTION, which their records have joined,
goes to the actuator and energy unit. In GANGED mode an OPERATE names all three (R50). A record in any other
state keeps it.

That one record's move takes all three in GANGED is the model's reading of a late close grant (log entry
59). -/
def Obligations.OperateMovesToTripping : Prop :=
  ∀ (r : EvalResult) (rest : List EvalResult) (s : State), s.power = .running →
    s.mail.results = r :: rest →
    let union := r.entries.foldl (fun u x => u.union x.tripSet) Tri.empty
    let moving : PoleSet := Tri.of fun p =>
      !union.isEmpty && (widen s union).get p && (s.seq.recs.get p).state.holdsClosed
    ∃ t, exec .evaluationResult s = .next t
      ∧ t.mail.results = rest
      ∧ t = { s with seq := t.seq, cap := t.cap, mail := t.mail, free := t.free }
      ∧ (∀ p, (s.seq.recs.get p).state.holdsClosed = false →
          (t.seq.recs.get p).state = (s.seq.recs.get p).state)
      ∧ (r.leading = none → t.mail.requests = s.mail.requests)
      ∧ ∀ name op, r.leading = some (name, op) →
          t.mail.requests = s.mail.requests ++
              (if moving.isEmpty then [] else [.trip moving .protection moving])
            ∧ ∀ p, moving.get p = true →
                (t.seq.recs.get p).state = .tripping ∧ (t.seq.recs.get p).timer = none
                  ∧ (t.seq.recs.get p).up = noElements ∧ (t.seq.recs.get p).lastOp = some name
                  ∧ (t.seq.recs.get p).trip
                      = some { op := op, name := name, time := r.set.time, wait := none }

/-- R39, R41: a PICKUP takes the records concerned from REST or RECLAIM to TIMING, their reclaim timer
stopped; a DROP_OUT that empties the elements up of a record in TIMING, where coordination is off or one of
its conditions fails (R42), takes it back to REST, or to RECLAIM with its shot count kept and the full
reclaim time, and no COORDINATION_STEP event names its pole.

R39, R163: a result whose PICKUP reaches a record in REST or RECLAIM triggers the capture unit once, and
every such record that leaves the result in TIMING or TRIPPING holds the answer in its capture field, the
time of the set as its pickup start, and as its peaks and flags those of the set, or 0 where the set has not
reached the sequence controller (R40). Any other result leaves the capture unit alone.

R42: where coordination is on, a drop-out with cause CURRENT of a fault that was up for at least three
sets, while this operation and the next are FAST and both lie below lockout, steps the shot count and
enters RECLAIM, with one COORDINATION_STEP event: its poles are records that stepped so, and its shot count
is the new one of such a record.

Where the stepping records' shot counts differ, the one given is free among them (log entry 12). -/
def Obligations.PickupDropOutAndCoordination : Prop :=
  (∀ (e : ElementId) (poles : PoleSet) (r : EvalResult) (rest : List EvalResult) (s : State) (p : Pole),
     s.power = .running → s.mail.results = r :: rest → r.leading = none → (widen s poles).get p = true →
     ∃ t, exec .evaluationResult s = .next t ∧ t.mail.requests = s.mail.requests
       ∧ (∀ op, r.entries = [.pickup e poles op] →
           ((s.seq.recs.get p).state = .rest →
               (t.seq.recs.get p).state = .timing ∧ (t.seq.recs.get p).origin = some .rest)
             ∧ ((s.seq.recs.get p).state = .reclaim →
                 (t.seq.recs.get p).state = .timing ∧ (t.seq.recs.get p).origin = some .reclaim)
             ∧ ((s.seq.recs.get p).state = .rest ∨ (s.seq.recs.get p).state = .reclaim →
                 (t.seq.recs.get p).timer = none ∧ (t.seq.recs.get p).pickupTime = some r.set.time
                   ∧ (t.seq.recs.get p).up.has e = true))
       ∧ (∀ held sets, r.entries = [.dropOut e poles held sets] →
           (s.seq.recs.get p).state = .timing → ((s.seq.recs.get p).up.drop e).isEmpty = true →
           let x := s.seq.recs.get p
           let longest := if held = true then x.longest else max x.longest sets
           s.cfg.prot.coordination = false ∨ (held = true ∧ x.up.has e = true) ∨ longest < 3
             ∨ x.lockOps ≤ x.shot + 1 ∨ 4 < x.shot + 2
             ∨ (opSettings s.cfg.prot (x.shot + 1)).speed = .delayed
             ∨ (opSettings s.cfg.prot (x.shot + 2)).speed = .delayed →
           (∀ ps n, (.sequence, .coordinationStep ps n) ∈ t.mail.raised →
               (.sequence, .coordinationStep ps n) ∈ s.mail.raised ∨ ps.get p = false)
             ∧ ((s.seq.recs.get p).origin = some .rest →
                 (t.seq.recs.get p).state = .rest ∧ (t.seq.recs.get p).shot = x.shot)
             ∧ ((s.seq.recs.get p).origin = some .reclaim →
                 (t.seq.recs.get p).state = .reclaim
                   ∧ (t.seq.recs.get p).shot = (s.seq.recs.get p).shot
                   ∧ (t.seq.recs.get p).timer
                       = some { kind := .reclaim, deadline := s.elapsed + s.cfg.prot.reclaim })))
    ∧ (∀ (r : EvalResult) (rest : List EvalResult) (s : State), s.power = .running →
         s.mail.results = r :: rest →
         let enters := fun (p : Pole) =>
           ((s.seq.recs.get p).state = .rest ∨ (s.seq.recs.get p).state = .reclaim)
             ∧ ∃ e poles op, .pickup e poles op ∈ r.entries ∧ (widen s poles).get p = true
         let answer := triggerCapture r.set.index s
         let arrived := r.set.index ≤ s.seq.lastSet
         ∃ t, exec .evaluationResult s = .next t
           ∧ ((∀ p, ¬ enters p) → t.cap = s.cap)
           ∧ ∀ p, enters p → t.cap = answer.2.cap
               ∧ ((t.seq.recs.get p).state = .timing ∨ (t.seq.recs.get p).state = .tripping →
                   (t.seq.recs.get p).capture = some answer.1
                     ∧ (t.seq.recs.get p).pickupTime = some r.set.time
                     ∧ (t.seq.recs.get p).peaks
                       = (if arrived then r.set.mag else { a := 0, b := 0, c := 0, g := 0 })
                     ∧ (t.seq.recs.get p).peakSat = (if arrived then r.set.sat
                       else { a := false, b := false, c := false, g := false })))
    ∧ (∀ (e : ElementId) (poles : PoleSet) (sets : Nat) (r : EvalResult) (rest : List EvalResult) (s : State)
         (p : Pole),
         s.power = .running → s.mail.results = r :: rest → r.leading = none →
         r.entries = [.dropOut e poles false sets] → (widen s poles).get p = true →
         (s.seq.recs.get p).state = .timing → ((s.seq.recs.get p).up.drop e).isEmpty = true →
         s.cfg.prot.coordination = true → 3 ≤ max (s.seq.recs.get p).longest sets →
         (s.seq.recs.get p).shot + 1 < (s.seq.recs.get p).lockOps → (s.seq.recs.get p).shot + 2 ≤ 4 →
         (opSettings s.cfg.prot ((s.seq.recs.get p).shot + 1)).speed = .fast →
         (opSettings s.cfg.prot ((s.seq.recs.get p).shot + 2)).speed = .fast →
         ∃ t steps n, exec .evaluationResult s = .next t
           ∧ (t.seq.recs.get p).state = .reclaim
           ∧ (t.seq.recs.get p).shot = (s.seq.recs.get p).shot + 1
           ∧ (t.seq.recs.get p).timer
               = some { kind := .reclaim, deadline := s.elapsed + s.cfg.prot.reclaim }
           ∧ t.mail.raised = s.mail.raised ++ [(.sequence, .coordinationStep steps n)]
           ∧ steps.get p = true
           ∧ (∀ q, steps.get q = true → (t.seq.recs.get q).state = .reclaim
               ∧ (t.seq.recs.get q).shot = (s.seq.recs.get q).shot + 1)
           ∧ ∃ q, steps.get q = true ∧ n = (t.seq.recs.get q).shot)

/-- R40: on each set a record in TIMING raises its peaks to the set's magnitudes and takes its saturated
flags, unless the set came before its pickup; every other record is left as it stands.

R44, R47: the grant of a trip puts the energy wait of the first grant into the trip in hand; the grant of
a close takes a record from CLOSE_WAIT, or late from LOCKOUT NO_ENERGY, to CLOSING with its timer stopped
and its close origin kept, and marks a record in LOCKOUT with another cause. In GANGED mode a grant that
takes one record to CLOSING takes all three, with that record's close origin (R50).

That a late close grant takes all three records in GANGED is the model's reading (log entry 59). -/
def Obligations.PeaksAndGrantsAreTaken : Prop :=
  (∀ (m : MeasSet) (rest : List MeasSet) (s : State), s.power = .running →
     s.mail.seqSets = m :: rest →
     ∃ t, exec .peakMagnitudeUpdate s = .next t
       ∧ t = { s with
           seq := { s.seq with lastSet := m.index, recs := t.seq.recs },
           mail := { s.mail with seqSets := rest } }
       ∧ ∀ p, t.seq.recs.get p =
           if (s.seq.recs.get p).state = .timing ∧ (s.seq.recs.get p).pickupSet ≤ m.index then
             { s.seq.recs.get p with
               peaks :=
                 { a := max (s.seq.recs.get p).peaks.a m.mag.a,
                   b := max (s.seq.recs.get p).peaks.b m.mag.b,
                   c := max (s.seq.recs.get p).peaks.c m.mag.c,
                   g := max (s.seq.recs.get p).peaks.g m.mag.g },
               peakSat :=
                 { a := (s.seq.recs.get p).peakSat.a || m.sat.a,
                   b := (s.seq.recs.get p).peakSat.b || m.sat.b,
                   c := (s.seq.recs.get p).peakSat.c || m.sat.c,
                   g := (s.seq.recs.get p).peakSat.g || m.sat.g } }
           else s.seq.recs.get p)
    ∧ (∀ (g : Grant) (rest : List StrokeMsg) (s : State), s.power = .running →
         s.mail.strokes = .grant g :: rest →
         let moves := fun (p : Pole) => g.poles.get p = true ∧
           ((s.seq.recs.get p).state = .closeWait
             ∨ (s.seq.recs.get p).state = .lockout ∧ (s.seq.recs.get p).cause = some .noEnergy)
         ∃ t, exec .grantNotice s = .next t
           ∧ t.mail.strokes = rest ∧ t = { s with seq := t.seq, mail := t.mail }
           ∧ t.mail.requests = s.mail.requests ∧ t.mail.raised = s.mail.raised
           ∧ (g.kind = .trip ∨ s.cfg.prot.tripMode = .single →
               ∀ p, g.poles.get p = false → t.seq.recs.get p = s.seq.recs.get p)
           ∧ (g.kind = .close → s.cfg.prot.tripMode = .ganged → ∀ o,
               (∃ p, moves p) → (∀ p, moves p → (s.seq.recs.get p).closeOrigin = o) →
               ∀ p, t.seq.recs.get p = { s.seq.recs.get p with
                 state := .closing, timer := none, cause := none, closeOrigin := o })
           ∧ ∀ p, g.poles.get p = true →
               (g.kind = .trip → ∀ h, (s.seq.recs.get p).trip = some h →
                   t.seq.recs.get p = { s.seq.recs.get p with
                     trip := some { h with
                       wait := some (match h.wait with | some w => w | none => g.wait) } })
                 ∧ (g.kind = .close → s.cfg.prot.tripMode = .single ∨ (∀ q, ¬ moves q) →
                     ((s.seq.recs.get p).state = .closeWait →
                         t.seq.recs.get p = { s.seq.recs.get p with state := .closing, timer := none })
                       ∧ ((s.seq.recs.get p).state = .lockout →
                           (s.seq.recs.get p).cause = some .noEnergy →
                           t.seq.recs.get p
                             = { s.seq.recs.get p with state := .closing, timer := none, cause := none })
                       ∧ ((s.seq.recs.get p).state = .lockout →
                           (s.seq.recs.get p).cause ≠ some .noEnergy →
                           t.seq.recs.get p = { s.seq.recs.get p with tripAfter := some .threePole })))

/-- R44: a trip that has reached every pole, on the first or the second attempt. A record of its poles in
TRIPPING with no outcome note has its shot count raised by one; one with a note keeps it. With no note on
any of them, no closing block and every new shot count below the operations to lockout, each goes to
DEAD_TIME with the dead time numbered by its shot count. A record with a note enters LOCKOUT with the
cause the note names; one without enters LOCKOUT PROTECTION under a closing block or when its new count is
at the operations to lockout. In SINGLE mode all three records then end in LOCKOUT (R51).

R44: a final result of a trip request that records with a trip in hand have joined, whatever its origin
(R64), ends that request, with the requests whose retry it ends. Where a pole of the records that hold
a trip in hand and no outcome note COMMAND opened, one TRIP event goes out for those poles, with the name,
the operation number and the energy wait of that trip, the highest peak of those records and every
saturated flag channel by channel, the operate time less the earliest pickup start plus 2 ms, and a capture
they hold; and no other TRIP event. Where none opened, or no record with a trip in hand has joined, none is
raised. Every trip in hand of a joined request is cleared.

That the shot count of every opened record rises before any lockout is the model's choice (log entry
84). Which requests records with a trip in hand have joined, and the source of the note of a shared
lockout, are the model's readings (log entries 12, 54 and 56). -/
def Obligations.SuccessfulTripIsTaken : Prop :=
  (∀ (r : StrokeOutcome) (rest : List StrokeMsg) (s : State), s.power = .running →
     s.mail.strokes = .result r :: rest → r.kind = .trip → r.final = true →
     r.missed = Tri.empty → r.reached.isEmpty = false →
     let set : PoleSet := Tri.of fun p =>
       (widen s r.reached).get p && decide ((s.seq.recs.get p).state = .tripping)
     let locks := fun (p : Pole) => set.get p = true ∧
       ((s.seq.recs.get p).note ≠ none ∨ closingBlock s.seq.summary = true
         ∨ (s.seq.recs.get p).lockOps ≤ (s.seq.recs.get p).shot + 1)
     ∃ t, exec .strokeResult s = .next t ∧ t.mail.strokes = rest
       ∧ (∀ p, set.get p = true → (t.seq.recs.get p).shot =
           (s.seq.recs.get p).shot + (if (s.seq.recs.get p).note = none then 1 else 0))
       ∧ ((∀ p, ¬ locks p) →
           t.mail.requests = s.mail.requests
             ∧ ∀ p, if set.get p = true then
                 (t.seq.recs.get p).state = .deadTime
                   ∧ (t.seq.recs.get p).timer = some
                       { kind := .dead,
                         deadline := s.elapsed +
                           (if (s.seq.recs.get p).shot = 0 then s.cfg.prot.dead1
                             else if (s.seq.recs.get p).shot = 1 then s.cfg.prot.dead2
                             else s.cfg.prot.dead3) }
               else (t.seq.recs.get p).state = (s.seq.recs.get p).state)
       ∧ ∀ p, locks p →
           (t.seq.recs.get p).state = .lockout
             ∧ (t.seq.recs.get p).cause = some (match (s.seq.recs.get p).note with
                 | some (.command _) => LockoutCause.command
                 | some .externalOpen => LockoutCause.externalOpen
                 | none => LockoutCause.protection)
             ∧ (s.cfg.prot.tripMode = .single → ∀ q, (t.seq.recs.get q).state = .lockout))
    ∧ (∀ (r : StrokeOutcome) (rest : List StrokeMsg) (h : TripInHand) (s : State), s.power = .running →
         s.mail.strokes = .result r :: rest → r.kind = .trip → r.final = true →
         let ended := s.seq.retries.filter fun g => decide (r.attempt ≠ 1) && g.missed.meets r.poles
         let poles : PoleSet := Tri.of fun p => r.poles.get p || ended.any fun g => g.poles.get p
         let opened : PoleSet := Tri.of fun p => r.reached.get p || ended.any fun g => g.opened.get p
         let counting : PoleSet := Tri.of fun p => poles.get p && (s.seq.recs.get p).trip.isSome
           && decide ((s.seq.recs.get p).note ≠ some (.command .cabinet))
           && decide ((s.seq.recs.get p).note ≠ some (.command .radio))
         let joined := r.joined.isEmpty = false ∨ ∃ g ∈ ended, g.joined.isEmpty = false
         let noTrip := fun (l : List (RecordSource × EventBody)) => ∀ e ∈ l, e.2.kind ≠ 0
         let highest := fun (f : SeqRecord → Nat) =>
           (counting.poles.map fun p => f (s.seq.recs.get p)).foldl max 0
         let flagged := fun (f : SeqRecord → Bool) => counting.poles.any fun p => f (s.seq.recs.get p)
         (∀ p, counting.get p = true → (s.seq.recs.get p).trip = some h) →
         ∃ t more, exec .strokeResult s = .next t ∧ noTrip more
           ∧ t.seq.retries = (s.seq.retries.filter fun g =>
               !(decide (r.attempt ≠ 1) && g.missed.meets r.poles))
           ∧ (¬ joined ∨ (counting.inter opened).isEmpty = true →
               t.mail.raised = s.mail.raised ++ more)
           ∧ (joined →
               ((counting.inter opened).isEmpty = false → ∃ time capture,
                   t.mail.raised = s.mail.raised ++
                       (.sequence, .trip (counting.inter opened) h.name h.op
                         { a := highest fun x => x.peaks.a, b := highest fun x => x.peaks.b,
                           c := highest fun x => x.peaks.c, g := highest fun x => x.peaks.g }
                         { a := flagged fun x => x.peakSat.a, b := flagged fun x => x.peakSat.b,
                           c := flagged fun x => x.peakSat.c, g := flagged fun x => x.peakSat.g }
                         time h.wait capture)
                         :: more
                     ∧ (∀ p e, counting.get p = true → (s.seq.recs.get p).pickupTime = some e →
                         (∀ q x, counting.get q = true → (s.seq.recs.get q).pickupTime = some x → e ≤ x) →
                         time = some (h.time - e + 2))
                     ∧ (∀ x, capture = some x →
                         ∃ p, counting.get p = true ∧ (s.seq.recs.get p).capture = some x)
                     ∧ (capture = none → ∀ p, counting.get p = true → (s.seq.recs.get p).capture = none))
                 ∧ ∀ p, poles.get p = true → (t.seq.recs.get p).trip = none))

/-- R45: a first attempt that has missed poles, of which some are still to be retried, is not final: in GANGED
mode it moves no record; in SINGLE mode the records in TRIPPING of the poles that opened go on as R44
states, to DEAD_TIME or to LOCKOUT, and where none locks out the other records keep their state. The
request is held until its retry ends. A second attempt that fails enters FAIL_TO_OPEN, whatever the outcome
notes: in SINGLE mode the records of the missed poles not already in LOCKOUT, the others following (R51); in
GANGED mode every record not in LOCKOUT, with a THREE_POLE trip for the poles that show CLOSED (R50).

When a waiting retry is judged, and the list of waiting retries, are the model's readings (log entries
16, 54 and 56). -/
def Obligations.FailedTripIsTaken : Prop :=
  ∀ (r : StrokeOutcome) (rest : List StrokeMsg) (s : State), s.power = .running →
    s.mail.strokes = .result r :: rest → r.kind = .trip → r.missed.isEmpty = false →
    let retried := r.missed.inter (retryComing { s with mail := { s.mail with strokes := rest } })
    let set : PoleSet := Tri.of fun p =>
      r.reached.get p && decide ((s.seq.recs.get p).state = .tripping)
    let locks := fun (p : Pole) => set.get p = true ∧
      ((s.seq.recs.get p).note ≠ none ∨ closingBlock s.seq.summary = true
        ∨ (s.seq.recs.get p).lockOps ≤ (s.seq.recs.get p).shot + 1)
    ∃ t, exec .strokeResult s = .next t ∧ t.mail.strokes = rest
      ∧ (r.final = false → retried.isEmpty = false →
          t.seq.retries = s.seq.retries ++
              [{ joined := r.joined, poles := r.poles, opened := r.reached, missed := retried }]
            ∧ (s.cfg.prot.tripMode = .ganged →
                t.seq.recs = s.seq.recs ∧ t.mail.requests = s.mail.requests))
      ∧ (r.final = false → s.cfg.prot.tripMode = .single →
          ((∀ p, ¬ locks p) →
              t.mail.requests = s.mail.requests
                ∧ ∀ p, (t.seq.recs.get p).state =
                      (if set.get p = true then .deadTime else (s.seq.recs.get p).state)
                    ∧ (t.seq.recs.get p).shot =
                        (s.seq.recs.get p).shot + (if set.get p = true then 1 else 0))
            ∧ ∀ p, locks p → (t.seq.recs.get p).state = .lockout
                ∧ (t.seq.recs.get p).cause = some (match (s.seq.recs.get p).note with
                    | some (.command _) => LockoutCause.command
                    | some .externalOpen => LockoutCause.externalOpen
                    | none => LockoutCause.protection))
      ∧ (r.final = true → s.cfg.prot.tripMode = .ganged → (lockedPoles s) ≠ Tri.full →
          (∀ p, (s.seq.recs.get p).state ≠ .lockout →
              (t.seq.recs.get p).state = .lockout ∧ (t.seq.recs.get p).cause = some .failToOpen)
            ∧ ((shownClosed t).isEmpty = false →
                t.mail.requests.getLast? = some (.trip (shownClosed t) .threePole)))
      ∧ (r.final = true → s.cfg.prot.tripMode = .single →
          ∀ p, r.missed.get p = true →
            (t.seq.recs.get p).state = .lockout
              ∧ ((s.seq.recs.get p).state ≠ .lockout →
                  (t.seq.recs.get p).cause = some .failToOpen
                    ∧ ∀ q, (t.seq.recs.get q).state = .lockout))

/-- R48: a close result for records in CLOSING with no trip after close mark. On success each goes to RECLAIM
with the full reclaim time, its shot count kept for origin PROTECTION and one less than the operations to
lockout for a commanded origin; the records of one origin share one event, RECLOSE with their shot count, or
CLOSED_BY_COMMAND with their source. On failure each enters LOCKOUT LEVER when the close was cut and
FAIL_TO_CLOSE otherwise, and a THREE_POLE trip goes out for the poles of the request that show CLOSED. In
GANGED mode the request's set stands for all three (R50).

R48: a record with a trip after close mark clears it on the result, whatever the result. A mark of a
commanded trip takes it to LOCKOUT COMMAND; a mark set in LOCKOUT leaves it in LOCKOUT with its cause. Where
its pole shows CLOSED a trip request for it goes out, with the command's origin or THREE_POLE.

R47: a refused close takes the records of its set in CLOSE_WAIT to LOCKOUT, TAG for the reason TAG and
NO_ENERGY for every other; in SINGLE mode all three records end in LOCKOUT (R51), in GANGED mode the set
stands for all three (R50).

Where records differ, the shot count and last element of a shared event are free (log entry 12); the
order of the events of one result is the model's choice (log entry 86). -/
def Obligations.CloseResultsAndRefusalsAreTaken : Prop :=
  (∀ (r : StrokeOutcome) (rest : List StrokeMsg) (s : State), s.power = .running →
     s.mail.strokes = .result r :: rest → r.kind = .close → r.poles.isEmpty = false →
     let poles := widen s r.poles
     (∀ p, poles.get p = true →
       (s.seq.recs.get p).state = .closing ∧ (s.seq.recs.get p).tripAfter = none) →
     let ofOrigin := fun (o : CloseOrigin) => poles.inter (polesWhere s fun x => decide (x.closeOrigin = some o))
     ∃ t, exec .strokeResult s = .next t ∧ t.mail.strokes = rest
       ∧ (r.cut = false → r.missed = Tri.empty →
           t.mail.requests = s.mail.requests
             ∧ (∃ n, ((ofOrigin .protection).isEmpty = false →
                   ∃ p, (ofOrigin .protection).get p = true ∧ n = (s.seq.recs.get p).shot)
                 ∧ t.mail.raised = s.mail.raised
                   ++ (if (ofOrigin .protection).isEmpty then []
                     else [(.sequence, .reclose (ofOrigin .protection) n)])
                   ++ (if (ofOrigin .commandCabinet).isEmpty then []
                     else [(.sequence, .closedByCommand (ofOrigin .commandCabinet) .cabinet)])
                   ++ (if (ofOrigin .commandRadio).isEmpty then []
                     else [(.sequence, .closedByCommand (ofOrigin .commandRadio) .radio)]))
             ∧ ∀ p, poles.get p = true →
                 (t.seq.recs.get p).state = .reclaim ∧ (t.seq.recs.get p).closeOrigin = none
                   ∧ (t.seq.recs.get p).timer
                       = some { kind := .reclaim, deadline := s.elapsed + s.cfg.prot.reclaim }
                   ∧ (t.seq.recs.get p).shot =
                       (if (s.seq.recs.get p).closeOrigin = some .commandCabinet
                           ∨ (s.seq.recs.get p).closeOrigin = some .commandRadio then
                         (s.seq.recs.get p).lockOps - 1
                       else (s.seq.recs.get p).shot))
       ∧ (r.cut = true ∨ r.missed.isEmpty = false →
           (∀ p, poles.get p = true →
               (t.seq.recs.get p).state = .lockout
                 ∧ (t.seq.recs.get p).cause = some (if r.cut then .lever else .failToClose))
             ∧ ((poles.inter (shownClosed t)).isEmpty = false →
                 t.mail.requests.getLast?
                   = some (.trip (poles.inter (shownClosed t)) .threePole))))
    ∧ (∀ (r : StrokeOutcome) (rest : List StrokeMsg) (s : State) (p : Pole), s.power = .running →
         s.mail.strokes = .result r :: rest → r.kind = .close → (widen s r.poles).get p = true →
         let before := s.seq.recs.get p
         ∃ t, exec .strokeResult s = .next t
           ∧ (∀ src, before.tripAfter = some (.command src) →
               (before.state ≠ .lockout → (t.seq.recs.get p).tripAfter = none
                   ∧ (t.seq.recs.get p).state = .lockout ∧ (t.seq.recs.get p).cause = some .command)
                 ∧ ((shownClosed t).get p = true →
                     ∃ ps, .trip ps src.origin ∈ t.mail.requests ∧ ps.get p = true))
           ∧ (before.tripAfter = some .threePole → before.state = .lockout →
               t.seq.recs.get p = { before with tripAfter := none }
                 ∧ ((shownClosed t).get p = true →
                     ∃ ps, .trip ps .threePole ∈ t.mail.requests ∧ ps.get p = true)))
    ∧ (∀ (poles : PoleSet) (reason : RefusalReason) (rest : List StrokeMsg) (s : State), s.power = .running →
         s.mail.strokes = .refusal poles reason :: rest →
         let cause : LockoutCause := if reason = .tag then .tag else .noEnergy
         let set : PoleSet := Tri.of fun p =>
           (widen s poles).get p && decide ((s.seq.recs.get p).state = .closeWait)
         ∃ t, exec .closeRefusal s = .next t ∧ t.mail.strokes = rest
           ∧ (∀ p, set.get p = true →
               (t.seq.recs.get p).state = .lockout ∧ (t.seq.recs.get p).cause = some cause
                 ∧ (t.seq.recs.get p).timer = none)
           ∧ (set.isEmpty = false → ∃ shot last,
               (.sequence, .lockout set cause shot last none) ∈ t.mail.raised)
           ∧ (set.isEmpty = false → s.cfg.prot.tripMode = .single →
               ∀ p, (t.seq.recs.get p).state = .lockout)
           ∧ (s.cfg.prot.tripMode = .ganged →
               ∀ p, set.get p = false → t.seq.recs.get p = s.seq.recs.get p))

/-- R46: the records whose dead time expires, all three in GANGED mode, enter CLOSE_WAIT with close origin
PROTECTION and a close wait of 5,000 ms; one close request is posted for them in GANGED mode, one for each
pole in SINGLE mode. Every other record is left as it stands.

R47: the records whose close wait expires enter LOCKOUT NO_ENERGY, keep their close origin (R37), and
have their waiting close withdrawn; in SINGLE mode all three records end in LOCKOUT (R51).

R49: the records whose reclaim timer expires, all three in GANGED mode, enter REST with shot count 0 and
no last operating element, and share one SEQUENCE_RESET event with the shot count they held.

The grouping of expiries in one command, and when a due one is taken, are the model's (log entries 24
and 50); where shot counts differ the one given is free (log entry 12). -/
def Obligations.WaitTimersOfTheSequenceEnd : Prop :=
  (∀ (ps : PoleSet) (s : State), s.power = .running → ps.isEmpty = false →
     let ending : PoleSet := Tri.of fun p =>
       (widen s ps).get p && decide ((s.seq.recs.get p).state = .deadTime)
         && (s.seq.recs.get p).timerDue .dead s.elapsed
     ∃ t, exec (.deadTimeExpiry ps) s = .next t
       ∧ t = { s with seq := t.seq, mail := t.mail } ∧ t.mail.raised = s.mail.raised
       ∧ (∀ p, t.seq.recs.get p =
           if ending.get p = true then
             { s.seq.recs.get p with
               state := .closeWait, closeOrigin := some .protection,
               timer := some { kind := .closeWait, deadline := s.elapsed + 5000 } }
           else s.seq.recs.get p)
       ∧ (s.cfg.prot.tripMode = .ganged → t.mail.requests = s.mail.requests ++
           (if ending.isEmpty then [] else [.close ending .protection]))
       ∧ (s.cfg.prot.tripMode = .single → t.mail.requests = s.mail.requests ++
           ending.poles.map fun p => .close (Tri.single p) .protection))
    ∧ (∀ (ps : PoleSet) (s : State), s.power = .running → ps.isEmpty = false →
         let ending : PoleSet := Tri.of fun p =>
           (widen s ps).get p && decide ((s.seq.recs.get p).state = .closeWait)
             && (s.seq.recs.get p).timerDue .closeWait s.elapsed
         ∃ t, exec (.closeWaitExpiry ps) s = .next t
           ∧ t = { s with seq := t.seq, mail := t.mail, free := t.free }
           ∧ (∀ p, ending.get p = true →
               t.seq.recs.get p = { s.seq.recs.get p with
                 state := .lockout, timer := none, cause := some .noEnergy, up := noElements,
                 origin := none, tripAfter := none })
           ∧ (ending.isEmpty = false → .withdraw .close ending ∈ t.mail.requests)
           ∧ (ending.isEmpty = false → s.cfg.prot.tripMode = .single →
               ∀ p, (t.seq.recs.get p).state = .lockout)
           ∧ (ending.isEmpty = true ∨ s.cfg.prot.tripMode = .ganged →
               ∀ p, ending.get p = false → t.seq.recs.get p = s.seq.recs.get p))
    ∧ (∀ (ps : PoleSet) (s : State), s.power = .running → ps.isEmpty = false →
         let ending : PoleSet := Tri.of fun p =>
           (widen s ps).get p && decide ((s.seq.recs.get p).state = .reclaim)
             && (s.seq.recs.get p).timerDue .reclaim s.elapsed
         ∃ t, exec (.sequenceReset ps) s = .next t
           ∧ t = { s with seq := t.seq, mail := t.mail, free := t.free }
           ∧ t.mail.requests = s.mail.requests
           ∧ (∀ p, t.seq.recs.get p =
               if ending.get p = true then
                 { s.seq.recs.get p with state := .rest, shot := 0, lastOp := none, timer := none }
               else s.seq.recs.get p)
           ∧ (ending.isEmpty = true → t.mail.raised = s.mail.raised)
           ∧ (ending.isEmpty = false → ∃ n p, ending.get p = true ∧ n = (s.seq.recs.get p).shot
               ∧ t.mail.raised = s.mail.raised ++ [(.sequence, .sequenceReset ending n)]))

/-- R36, R53: a closing block is in force while a tag of any of the four kinds or hold-pending is in the
summary. "tag in force" marks its kind there, "tag removed" clears it once none of the kind is left, and the
hold signals set and clear hold-pending. A signal gives every record its operations to lockout in force, 1
under a closing block and the setting otherwise. A tag in force takes every record in DEAD_TIME or
CLOSE_WAIT to LOCKOUT TAG, but that a REMOTE_BLOCK leaves a commanded close of the cabinet waiting. A record
it does not move is left as it stands where no other is moved, and in GANGED mode always; in SINGLE mode a
record that is moved takes the others to LOCKOUT (R51). A removal moves no record. -/
def Obligations.TagSignalsReachTheSequence : Prop :=
  (∀ u : TagSummary, closingBlock u = true ↔ u.kinds.hotLine = true ∨ u.kinds.doNotClose = true
      ∨ u.kinds.remoteBlock = true ∨ u.kinds.systemHold = true ∨ u.hold = true)
    ∧ ∀ (sig : TagSignal) (rest : List TagSignal) (s : State), s.power = .running →
      s.mail.seqTags = sig :: rest →
      let old := s.seq.summary
      let marked := fun (k : TagKind) (held : Bool) => { old with kinds :=
        { hotLine := if k = .hotLine then held else old.kinds.hotLine,
          doNotClose := if k = .doNotClose then held else old.kinds.doNotClose,
          remoteBlock := if k = .remoteBlock then held else old.kinds.remoteBlock,
          systemHold := if k = .systemHold then held else old.kinds.systemHold } }
      let summary : TagSummary := match sig with
        | .inForce k => marked k true
        | .removed k left => marked k (decide (left ≠ 0))
        | .holdSet => { old with hold := true }
        | .holdCleared => { old with hold := false }
      let lockOps := if closingBlock summary then 1 else s.cfg.prot.opsToLockout
      let moved := fun (p : Pole) => (s.seq.recs.get p).state = .deadTime
        ∨ (s.seq.recs.get p).state = .closeWait
          ∧ ¬ (sig = .inForce .remoteBlock ∧ (s.seq.recs.get p).closeOrigin = some .commandCabinet)
      (sig = .holdCleared ∨ (∃ k left, sig = .removed k left) →
          ∃ t, exec .sequenceTagRemoved s = .next t
            ∧ t = { s with seq := t.seq, mail := { s.mail with seqTags := rest } }
            ∧ t.seq.summary = summary
            ∧ ∀ p, t.seq.recs.get p = { s.seq.recs.get p with lockOps := lockOps })
        ∧ (sig = .holdSet ∨ (∃ k, sig = .inForce k) →
            ∃ t, exec .sequenceTagInForce s = .next t ∧ t.mail.seqTags = rest
              ∧ t.seq.summary = summary
              ∧ (∀ p, (t.seq.recs.get p).lockOps = lockOps)
              ∧ (∀ p, moved p →
                  (t.seq.recs.get p).state = .lockout ∧ (t.seq.recs.get p).cause = some .tag
                    ∧ (s.cfg.prot.tripMode = .single → ∀ q, (t.seq.recs.get q).state = .lockout))
              ∧ (∀ p, ¬ moved p → s.cfg.prot.tripMode = .ganged ∨ (∀ q, ¬ moved q) →
                  t.seq.recs.get p = { s.seq.recs.get p with lockOps := lockOps }))

/-- R54: a commanded trip of a set that is empty or names a pole outside A, B and C is answered BAD_VALUE and
changes nothing; every other one is ACCEPTED, and each record of the set, widened in GANGED mode, is taken
by its state, one in LOCKOUT tripped where its pole shows CLOSED; in SINGLE mode a record locked out by it
takes all three to LOCKOUT (R51). The cabinet's is answered at once, the master station's result enters the
reply slot.

That the trip of the closed records is posted also where a waiting record locks out all three rests on
the model's order of the records (log entry 58); one request for all locked out poles is its choice (log
entry 85). A BAD_VALUE without a field index is the model's reading (log entry 9). -/
def Obligations.CommandedTripIsTaken : Prop :=
  ∀ (tag set : Byte) (s : State),
    (Ready s → (set.toNat = 0 ∨ 8 ≤ set.toNat) →
        exec (.poleTrip tag set) s = .next (replied 14#8 tag .badValue (.badField none) s))
      ∧ (Hearing s → (set.toNat = 0 ∨ 8 ≤ set.toNat) →
          exec (.tripCommand tag set) s = .next (judgeSend (withSlot 2#8 tag .badValue none s)))
      ∧ ∀ (src : CmdSource), 0 < set.toNat → set.toNat < 8 →
          let poles : PoleSet := { a := set.getLsbD 0, b := set.getLsbD 1, c := set.getLsbD 2 }
          let closed := (widen s poles).inter (polesWhere s fun r => r.state.holdsClosed)
          let waiting := (widen s poles).inter (polesWhere s fun r =>
            decide (r.state = .deadTime) || decide (r.state = .closeWait))
          let shut := ((widen s poles).inter (lockedPoles s)).inter (shownClosed s)
          let alone := s.cfg.prot.tripMode = .ganged ∨ waiting.isEmpty = true
          (src = .cabinet → Ready s) → (src = .radio → Hearing s) →
          ∃ t, exec (match src with
                | .cabinet => Instr.poleTrip tag set
                | .radio => Instr.tripCommand tag set) s = .next t
            ∧ (src = .cabinet → t.cab.owed = none ∧ t.cab.replies = s.cab.replies ++
                [{ kind := 14#8, tag := tag, code := .accepted, content := .nothing }])
            ∧ (src = .radio → ∃ b, t.rad.slot = some
                { command := 2#8, number := tag, code := .accepted, tags := none, inSend := b })
            ∧ (closed.isEmpty = false → .trip closed src.origin ∈ t.mail.requests)
            ∧ (shut.isEmpty = false → .trip shut src.origin ∈ t.mail.requests)
            ∧ (¬ alone → ∀ p, (t.seq.recs.get p).state = .lockout)
            ∧ ∀ p, (widen s poles).get p = true →
                ((s.seq.recs.get p).state.holdsClosed = true → alone →
                    (t.seq.recs.get p).state = .tripping ∧ (t.seq.recs.get p).timer = none
                      ∧ (t.seq.recs.get p).note = some (.command src))
                  ∧ ((s.seq.recs.get p).state = .tripping → alone →
                      t.seq.recs.get p = { s.seq.recs.get p with note := some (.command src) })
                  ∧ (waiting.get p = true →
                      (t.seq.recs.get p).state = .lockout
                        ∧ (t.seq.recs.get p).cause = some .command)
                  ∧ ((s.seq.recs.get p).state = .closing → alone →
                      t.seq.recs.get p
                        = { s.seq.recs.get p with tripAfter := some (.command src) })
                  ∧ ((s.seq.recs.get p).state = .lockout →
                      (t.seq.recs.get p).cause = (s.seq.recs.get p).cause
                        ∧ (t.seq.recs.get p).state = .lockout)

/-- R55, R56: a commanded close of the cabinet or the master station is refused by the first check that
fails, LOCAL, LEVER, TAG, ENERGY, STATE, with one CLOSE_BLOCKED event and "blocked close seen" set; one that
passes is ACCEPTED: each record of the set, widened in GANGED mode, goes from LOCKOUT to CLOSE_WAIT with the
command's close origin and a close wait of 5,000 ms, and one close request goes out.

That the checks read the selector, the lever and the power state as they stand, and the BAD_VALUE
without a field index, are the model's readings (log entries 9 and 32). -/
def Obligations.CommandedCloseIsChecked : Prop :=
  ∀ (tag set : Byte) (src : CmdSource) (s : State),
    let command := match src with
      | .cabinet => Instr.poleClose tag set
      | .radio => Instr.closeCommand tag set
    let poles : PoleSet := { a := set.getLsbD 0, b := set.getLsbD 1, c := set.getLsbD 2 }
    let tags := s.seq.summary.kinds.hotLine || s.seq.summary.kinds.doNotClose
      || s.seq.summary.kinds.systemHold || s.seq.summary.hold
      || (decide (src = .radio) && s.seq.summary.kinds.remoteBlock)
    let local_ := match src with
      | .cabinet => s.meas.inputs.selectorRemote
      | .radio => !s.meas.inputs.selectorRemote
    let lockedOut := ∀ p, (widen s poles).get p = true →
      (s.seq.recs.get p).state = .lockout ∧ s.en.failed.get p = false
    let answers := fun (t : State) (code : ResultCode) =>
      (src = .cabinet → t.cab.owed = none ∧ t.cab.replies = s.cab.replies ++
          [{ kind := 15#8, tag := tag, code := code,
             content := if code = .badValue then .badField none else .nothing }])
        ∧ (src = .radio → ∃ b, t.rad.slot = some
            { command := 3#8, number := tag, code := code, tags := none, inSend := b })
    (src = .cabinet → Ready s) → (src = .radio → Hearing s) →
    ∃ t, exec command s = .next t
      ∧ (set.toNat = 0 ∨ 8 ≤ set.toNat →
          answers t .badValue ∧ t.seq = s.seq ∧ t.mail.raised = s.mail.raised)
      ∧ (0 < set.toNat → set.toNat < 8 → ∀ code : ResultCode,
          (local_ = true ∧ code = .refusedLocal)
            ∨ (local_ = false ∧ s.meas.inputs.leverTripped = true ∧ code = .refusedLever)
            ∨ (local_ = false ∧ s.meas.inputs.leverTripped = false ∧ tags = true
                ∧ code = .refusedTag)
            ∨ (local_ = false ∧ s.meas.inputs.leverTripped = false ∧ tags = false
                ∧ s.bat.power = some .holdover ∧ code = .refusedEnergy)
            ∨ (local_ = false ∧ s.meas.inputs.leverTripped = false ∧ tags = false
                ∧ s.bat.power ≠ some .holdover ∧ ¬ lockedOut ∧ code = .refusedState) →
          answers t code ∧ t.seq = { s.seq with blockedSeen := true }
            ∧ t.mail.raised = s.mail.raised ++ [(.sequence, .closeBlocked src set code)]
            ∧ t.mail.requests = s.mail.requests)
      ∧ (0 < set.toNat → set.toNat < 8 → local_ = false → s.meas.inputs.leverTripped = false →
          tags = false → s.bat.power ≠ some .holdover → lockedOut →
          answers t .accepted
            ∧ t.mail.requests = s.mail.requests ++ [.close (widen s poles) src.origin]
            ∧ t.mail.raised = s.mail.raised
            ∧ ∀ p, if (widen s poles).get p = true then
                (t.seq.recs.get p).state = .closeWait ∧ (t.seq.recs.get p).cause = none
                  ∧ (t.seq.recs.get p).closeOrigin = some src.closeOrigin
                  ∧ (t.seq.recs.get p).timer
                      = some { kind := .closeWait, deadline := s.elapsed + 5000 }
              else t.seq.recs.get p = s.seq.recs.get p)

/-- R57: when the lever goes to TRIPPED every record ends in LOCKOUT, those not there before with cause LEVER
and the others with the cause they had, and every waiting trip and close is withdrawn; in GANGED mode, where
a record was not in LOCKOUT, the poles that show CLOSED are then tripped with origin THREE_POLE (R50). A
change back to NORMAL moves no record.

R58, R59: a pole that changes to OPEN while its record is in REST, TIMING or RECLAIM, with no trip stroke of
the part for it, takes its record to LOCKOUT EXTERNAL_OPEN, in GANGED mode all three not in LOCKOUT, with a
THREE_POLE trip for the poles that still show CLOSED (R50). So does one in TRIPPING whose request still
waits, its trip in hand cleared without a TRIP event and its pole withdrawn from the request. A pole that
changes to CLOSED while its record is in DEAD_TIME, CLOSE_WAIT or LOCKOUT, with no close stroke of the part
for it, goes to TRIPPING with that outcome note, and a trip request goes out, for {A, B, C} in GANGED mode.
A change to UNKNOWN moves no record.

What counts as a stroke in flight while its result is on its way, the move of all three records in
GANGED by a pole that opens while its trip waits, and the trip behind the lever's withdrawals in GANGED,
are the model's readings (log entries 13, 34 and 35). -/
def Obligations.LeverAndContactsMoveRecords : Prop :=
  (∀ (tripped : Bool) (rest : List Bool) (s : State), s.power = .running →
     s.mail.seqLever = tripped :: rest →
     (tripped = false ∨ s.seq.created = false →
         exec .sequenceLeverChange s = .next { s with mail := { s.mail with seqLever := rest } })
       ∧ (tripped = true → s.seq.created = true →
           ∃ t, exec .sequenceLeverChange s = .next t ∧ t.mail.seqLever = rest
             ∧ .withdraw .trip Tri.full ∈ t.mail.requests
             ∧ .withdraw .close Tri.full ∈ t.mail.requests
             ∧ (s.cfg.prot.tripMode = .ganged → (∃ p, (s.seq.recs.get p).state ≠ .lockout) →
                 (shownClosed s).isEmpty = false →
                 t.mail.requests.getLast? = some (.trip (shownClosed s) .threePole))
             ∧ ∀ p, (t.seq.recs.get p).state = .lockout
                 ∧ (t.seq.recs.get p).cause =
                     (if (s.seq.recs.get p).state = .lockout then (s.seq.recs.get p).cause
                       else some .lever)))
    ∧ (∀ (p : Pole) (st : PoleState) (rest : List (Pole × PoleState)) (s : State), s.power = .running →
         s.mail.seqPoles = (p, st) :: rest → s.seq.created = true → s.seq.view.get p ≠ st →
         ∃ t, exec .sequencePoleChange s = .next t ∧ t.mail.seqPoles = rest
           ∧ t.seq.view = s.seq.view.set p st
           ∧ (st = .unknown → t.seq.recs = s.seq.recs ∧ t.mail.requests = s.mail.requests)
           ∧ (st = .opened → (inFlight .trip s).get p = true →
               t.seq.recs = s.seq.recs ∧ t.mail.requests = s.mail.requests)
           ∧ (st = .opened → (inFlight .trip s).get p = false →
               (s.seq.recs.get p).state.holdsClosed = true →
               ((t.seq.recs.get p).state = .lockout ∧ (t.seq.recs.get p).cause = some .externalOpen)
                 ∧ (s.cfg.prot.tripMode = .ganged → ∀ q, (s.seq.recs.get q).state ≠ .lockout →
                     (t.seq.recs.get q).state = .lockout
                       ∧ (t.seq.recs.get q).cause = some .externalOpen)
                 ∧ (s.cfg.prot.tripMode = .single → ∀ q, (t.seq.recs.get q).state = .lockout)
                 ∧ (s.cfg.prot.tripMode = .ganged → (shownClosed t).isEmpty = false →
                     t.mail.requests.getLast? = some (.trip (shownClosed t) .threePole)))
           ∧ (st = .opened → (inFlight .trip s).get p = false → (s.seq.recs.get p).state = .tripping →
               ((∃ r ∈ s.en.queue, r.kind = .trip ∧ r.poles.get p = true)
                 ∨ ∃ ps o j, .trip ps o j ∈ s.mail.requests ∧ ps.get p = true) →
               (t.seq.recs.get p).state = .lockout ∧ (t.seq.recs.get p).cause = some .externalOpen
                 ∧ (t.seq.recs.get p).trip = none ∧ .withdraw .trip (Tri.single p) ∈ t.mail.requests
                 ∧ (∃ more, t.mail.raised = s.mail.raised ++ more ∧ ∀ e ∈ more, e.2.kind ≠ 0)
                 ∧ (s.cfg.prot.tripMode = .ganged →
                     (∀ q, (s.seq.recs.get q).state ≠ .lockout →
                         (t.seq.recs.get q).state = .lockout
                           ∧ (t.seq.recs.get q).cause = some .externalOpen)
                       ∧ ((shownClosed t).isEmpty = false →
                           t.mail.requests.getLast? = some (.trip (shownClosed t) .threePole)))
                 ∧ (s.cfg.prot.tripMode = .single → ∀ q, (t.seq.recs.get q).state = .lockout))
           ∧ (st = .closed → (inFlight .close s).get p = false →
               (s.seq.recs.get p).state = .deadTime ∨ (s.seq.recs.get p).state = .closeWait
                 ∨ (s.seq.recs.get p).state = .lockout →
               (∀ q, (widen s (Tri.single p)).get q = true →
                   (t.seq.recs.get q).state = .tripping ∧ (t.seq.recs.get q).timer = none
                     ∧ (t.seq.recs.get q).note = some .externalOpen)
                 ∧ t.mail.requests.getLast? = some (.trip (widen s (Tri.single p)) .protection)))

/-- R37: whatever command of the sequence controller takes records from another state to LOCKOUT, the records
that enter with one cause share one LOCKOUT event and no other names that cause: their poles, the cause, the
highest of their shot counts, a last operating element of theirs, and for cause COMMAND the source of a
command. Each has its timer stopped, its elements up and timing origin cleared, its close origin cleared
unless the cause is NO_ENERGY, and its waiting close withdrawn where it was in CLOSE_WAIT.

R51: in SINGLE mode, when a command of the sequence controller takes a record to LOCKOUT with a cause other
than THREE_POLE, every record is in LOCKOUT after it. One that entered THREE_POLE with its pole held closed
has a trip posted, with origin THREE_POLE or that of the commanded trip; one in TRIPPING keeps its request;
one in CLOSING is marked to be tripped after the close, or is tripped where the event itself has ended that
close.

R38: protection is at rest while every record is in REST or LOCKOUT with no element up. Each command of the
sequence controller that changes this hands the change to the stager, and to the battery manager together
with whether a record left REST or LOCKOUT; one that brings such a departure without a change hands the
departure alone; any other hands nothing.

Which of differing last elements and sources the event holds is free, and a departure is judged by the
states before and after the event (log entries 12 and 68). -/
def Obligations.LockoutsSpreadAndRestIsReported : Prop :=
  (∀ (s t : State) (tag set : Byte) (ps : PoleSet) (c : Instr), exec c s = .next t →
     c ∈ sequenceCommands tag set ps →
     ∃ more posted, t.mail.raised = s.mail.raised ++ more ∧ t.mail.requests = s.mail.requests ++ posted
       ∧ (∀ p, (enteredLockout s t).get p = true →
           (t.seq.recs.get p).timer = none ∧ (t.seq.recs.get p).up = noElements
             ∧ (t.seq.recs.get p).origin = none
             ∧ ((t.seq.recs.get p).cause ≠ some .noEnergy → (t.seq.recs.get p).closeOrigin = none)
             ∧ ((s.seq.recs.get p).state = .closeWait →
                 ∃ qs, .withdraw .close qs ∈ posted ∧ qs.get p = true))
       ∧ ∀ cause,
           let sharing := (enteredLockout s t).inter
             (polesWhere t fun r => decide (r.cause = some cause))
           let shots := sharing.poles.map fun p => (t.seq.recs.get p).shot
           let lasts := sharing.poles.filterMap fun p => (t.seq.recs.get p).lastOp
           more.filter (isLockoutOf cause) = [] ∧ sharing.isEmpty = true
             ∨ ∃ last source,
                 more.filter (isLockoutOf cause)
                     = [(.sequence, .lockout sharing cause (shots.foldl max 0) last source)]
                   ∧ sharing.isEmpty = false
                   ∧ (last = none ∧ lasts = [] ∨ ∃ x ∈ lasts, last = some x)
                   ∧ (source.isSome = true ↔ cause = .command))
    ∧ (∀ (s t : State) (tag set : Byte) (ps : PoleSet) (c : Instr) (p : Pole), exec c s = .next t →
         c ∈ sequenceCommands tag set ps → s.cfg.prot.tripMode = .single →
         (enteredLockout s t).get p = true → (t.seq.recs.get p).cause ≠ some .threePole →
         ∃ posted, t.mail.requests = s.mail.requests ++ posted
           ∧ (∀ q, (t.seq.recs.get q).state = .lockout)
           ∧ ∀ q, (enteredLockout s t).get q = true → (t.seq.recs.get q).cause = some .threePole →
               let tripped := ∃ qs o, .trip qs o ∈ posted ∧ qs.get q = true
                 ∧ (o = .threePole ∨ (c = .poleTrip tag set ∧ o = .commandCabinet)
                   ∨ (c = .tripCommand tag set ∧ o = .commandRadio))
               ((s.seq.recs.get q).state.holdsClosed = true → tripped)
                 ∧ ((s.seq.recs.get q).state = .tripping →
                     ∀ qs, .withdraw .trip qs ∈ posted → qs.get q = false)
                 ∧ ((s.seq.recs.get q).state = .closing →
                     (t.seq.recs.get q).tripAfter = some .threePole ∨ tripped))
    ∧ (∀ (s t : State) (tag set : Byte) (ps : PoleSet) (c : Instr), exec c s = .next t →
         c ∈ sequenceCommands tag set ps → s.seq.created = true →
         let resting := fun (q : Sequence) (p : Pole) =>
           decide ((q.recs.get p).state = .rest) || decide ((q.recs.get p).state = .lockout)
         let atRest := fun (q : Sequence) => allPoles.all fun p =>
           resting q p && decide ((q.recs.get p).up = noElements)
         let departure := allPoles.any fun p => resting s.seq p && !resting t.seq p
         s.seq.saidAtRest = atRest s.seq →
         t.seq.saidAtRest = atRest t.seq
           ∧ (atRest t.seq = atRest s.seq →
               t.mail.stageRest = s.mail.stageRest
                 ∧ t.mail.rest = s.mail.rest ++
                   (if departure then [{ departure := true, change := none }] else []))
           ∧ (atRest t.seq ≠ atRest s.seq →
               t.mail.stageRest = s.mail.stageRest ++ [atRest t.seq]
                 ∧ t.mail.rest = s.mail.rest ++
                   [{ departure := departure, change := some (atRest t.seq) }]))

/-! ## Actuator energy and pole strokes -/

/-- R64: a trip request loses the poles already being retried; what is left merges into the oldest waiting
first attempt that it shares a pole with, which takes the union and every alarm, or enters as a request of
its own ahead of every close; every waiting close that shares a pole with the arrival is refused
TRIP_WAITING. The records that join with the arrival join the request that takes their pole (R44). The
arbiter then judges.

R65: a trip that needs an entry of its own in a full queue displaces the newest waiting close, which is
refused with the reason DISPLACED.

How a request tells which records have joined it is the model's own (log entry 56). -/
def Obligations.TripRequestsAreQueued : Prop :=
  (∀ (poles joined : PoleSet) (origin : StrokeOrigin) (rest : List EnergyMsg) (s : State),
     s.power = .running → s.mail.requests = .trip poles origin joined :: rest → s.en.queue.length < 8 →
     let trips := waitingTripRequests s
     let kept := trips.map fun r =>
       if r.attempt = 2 then { r with joined := r.joined.union (joined.inter r.poles) } else r
     let retried := unionPoles (trips.filter fun r => decide (r.attempt = 2))
     let left := poles.diff retried
     let shares := fun (r : StrokeRequest) => decide (r.attempt = 1) && r.poles.meets left
     let closes := s.en.queue.filter StrokeRequest.isClose
     let refused := closes.filter fun r => r.poles.meets poles
     s.en.queue = trips ++ closes →
     ∃ u, exec .tripRequestArrival s = .next (judgeArbiter u)
       ∧ u = { s with
           en := { s.en with queue := u.en.queue },
           mail := { s.mail with
             requests := rest,
             strokes := s.mail.strokes ++ refused.map fun r => .refusal r.poles .tripWaiting } }
       ∧ u.en.queue = waitingTripRequests u ++ (closes.filter fun r => !r.poles.meets poles)
       ∧ (left.isEmpty = true → waitingTripRequests u = kept)
       ∧ (left.isEmpty = false → trips.any shares = false →
           waitingTripRequests u = kept ++
             [{ kind := .trip, poles := left, origin := origin, joined := joined.inter left,
                arrival := s.elapsed, attempt := 1, alarm := false }])
       ∧ (∀ before r after, left.isEmpty = false → kept = before ++ r :: after → shares r = true →
           before.any shares = false →
           ∃ merged, waitingTripRequests u = before ++ merged :: (after.filter fun x => !shares x)
             ∧ merged = { r with
                 poles := merged.poles, joined := merged.joined, alarm := merged.alarm }
             ∧ (merged.alarm = true ↔ r.alarm = true ∨ ∃ x ∈ after, shares x = true ∧ x.alarm = true)
             ∧ ∀ p, (merged.poles.get p = true ↔
                   r.poles.get p = true ∨ left.get p = true
                     ∨ ∃ x ∈ after, shares x = true ∧ x.poles.get p = true)
                 ∧ (merged.joined.get p = true ↔
                   r.joined.get p = true ∨ (joined.get p = true ∧ left.get p = true)
                     ∨ ∃ x ∈ after, shares x = true ∧ x.joined.get p = true)))
    ∧ (∀ (poles joined : PoleSet) (origin : StrokeOrigin) (rest : List EnergyMsg)
         (before : List StrokeRequest) (newest : StrokeRequest) (s : State),
         s.power = .running → s.mail.requests = .trip poles origin joined :: rest →
         s.en.queue = before ++ [newest] → newest.kind = .close → s.en.queue.length = 8 →
         poles.isEmpty = false → (∀ r ∈ before, r.poles.meets poles = false) →
         newest.poles.meets poles = false →
         ∃ u, exec .tripRequestArrival s = .next (judgeArbiter u)
           ∧ u.en.queue.length = 8
           ∧ u.en.queue.filter StrokeRequest.isClose = before.filter StrokeRequest.isClose
           ∧ u.en.queue.filter StrokeRequest.isTrip = 
               ((before.filter StrokeRequest.isTrip).map fun r => if r.attempt = 2 then
                   { r with joined := r.joined.union (joined.inter r.poles) } else r) ++
                 [{ kind := .trip, poles := poles, origin := origin, joined := joined.inter poles,
                    arrival := s.elapsed, attempt := 1, alarm := false }]
           ∧ u.mail.strokes = s.mail.strokes ++ [.refusal newest.poles .displaced])

/-- R65: a close request is refused by the first check that fails, HOLDOVER, TAG, TRIP_WAITING, FAILED,
QUEUE_FULL, and makes no entry; one that passes enters behind every request, and the arbiter judges.

R66: a withdrawal that finds none of its poles waiting in a request of its kind has no effect. Any other
takes its poles out of every waiting request of its kind and removes a request left with none; it draws no
answer and does not reach a stroke in flight; the arbiter then judges. Of the sequence records a withdrawn
trip may clear the trip in hand and its capture, and changes nothing else.

R44: when a withdrawal takes poles out of a waiting second attempt, the requests whose missed poles wait for
it lose those poles, and one left with none is judged by the poles that opened: where records with a trip in
hand have joined it, its records' trips in hand are cleared, and one TRIP event goes out for the poles that
opened of those that held one with no outcome note COMMAND. Where no request that such records have joined
ends so, no event is raised.

That the checks read the tag table and the power state as they stand, and when a withdrawn trip is
judged or its trip in hand cleared, are the model's readings (log entries 14, 16, 32 and 56). -/
def Obligations.CloseRequestsAndWithdrawals : Prop :=
  (∀ (poles : PoleSet) (origin : StrokeOrigin) (rest : List EnergyMsg) (s : State),
     s.power = .running → s.mail.requests = .close poles origin :: rest →
     let held := s.tags.holdPending = true ∨ ∃ e ∈ s.tags.table,
       e.kind = .hotLine ∨ e.kind = .doNotClose ∨ e.kind = .systemHold
         ∨ (e.kind = .remoteBlock ∧ (origin = .protection ∨ origin = .commandRadio))
     let waiting := ∃ r ∈ s.en.queue, r.kind = .trip ∧ r.poles.meets poles = true
     let marked := s.en.failed.meets poles = true
     let refuse := fun (reason : RefusalReason) =>
       exec .closeRequestArrival s = .next { s with mail := { s.mail with
         requests := rest, strokes := s.mail.strokes ++ [.refusal poles reason] } }
     (s.bat.power = some .holdover → refuse .holdover)
       ∧ (s.bat.power ≠ some .holdover → held → refuse .tag)
       ∧ (s.bat.power ≠ some .holdover → ¬ held → waiting → refuse .tripWaiting)
       ∧ (s.bat.power ≠ some .holdover → ¬ held → ¬ waiting → marked → refuse .failed)
       ∧ (s.bat.power ≠ some .holdover → ¬ held → ¬ waiting → ¬ marked → 8 ≤ s.en.queue.length →
           refuse .queueFull)
       ∧ (s.bat.power ≠ some .holdover → ¬ held → ¬ waiting → ¬ marked → s.en.queue.length < 8 →
           exec .closeRequestArrival s = .next (judgeArbiter { s with
             mail := { s.mail with requests := rest },
             en := { s.en with queue := s.en.queue ++
               [{ kind := .close, poles := poles, origin := origin, joined := Tri.empty,
                  arrival := s.elapsed, attempt := 1, alarm := false }] } })))
    ∧ (∀ (kind : StrokeKind) (poles : PoleSet) (rest : List EnergyMsg) (s : State), s.power = .running →
         s.mail.requests = .withdraw kind poles :: rest → (∀ r ∈ s.en.queue, r.poles.isEmpty = false) →
         let found := ∃ r ∈ s.en.queue, r.kind = kind ∧ r.poles.meets poles = true
         let left := s.en.queue.filterMap fun r =>
           if r.kind ≠ kind then some r
           else if (r.poles.diff poles).isEmpty then none
           else some { r with poles := r.poles.diff poles, joined := r.joined.diff poles }
         let taken := { s with
           mail := { s.mail with requests := rest }, en := { s.en with queue := left } }
         (¬ found → exec .requestWithdrawal s
             = .next { s with mail := { s.mail with requests := rest } })
           ∧ (found → kind = .close → exec .requestWithdrawal s = .next (judgeArbiter taken))
           ∧ (found → kind = .trip →
               ∃ u, exec .requestWithdrawal s = .next (judgeArbiter u)
                 ∧ u = { taken with
                     seq := { s.seq with recs := u.seq.recs, retries := u.seq.retries },
                     mail := { taken.mail with raised := u.mail.raised }, free := u.free }
                 ∧ ∀ p, u.seq.recs.get p = { s.seq.recs.get p with
                     trip := (u.seq.recs.get p).trip, capture := (u.seq.recs.get p).capture }))
    ∧ (∀ (poles : PoleSet) (rest : List EnergyMsg) (s : State), s.power = .running →
         s.mail.requests = .withdraw .trip poles :: rest →
         let gone : PoleSet := Tri.of fun p => poles.get p && s.en.queue.any fun r =>
           decide (r.kind = .trip) && decide (r.attempt = 2) && r.poles.get p
         (∀ m ∈ s.mail.strokes, (retryResult m).meets gone = false) → gone.isEmpty = false →
         let ends := fun (g : RetryGroup) => g.missed.meets gone && g.missed.within gone
         ∃ u, exec .requestWithdrawal s = .next (judgeArbiter u)
           ∧ u.seq.retries = (s.seq.retries.filter fun g => !ends g).map (fun g =>
               { g with missed := g.missed.diff gone })
           ∧ ((∀ g ∈ s.seq.retries, ends g = false ∨ g.joined.isEmpty = true) →
               u.mail.raised = s.mail.raised)
           ∧ ∀ g h, s.seq.retries.filter ends = [g] → g.joined.isEmpty = false →
               let counting : PoleSet := Tri.of fun p => g.poles.get p && (s.seq.recs.get p).trip.isSome
                 && decide ((s.seq.recs.get p).note ≠ some (.command .cabinet))
                 && decide ((s.seq.recs.get p).note ≠ some (.command .radio))
               (∀ p, counting.get p = true → (s.seq.recs.get p).trip = some h) →
               (∀ p, g.poles.get p = true → (u.seq.recs.get p).trip = none)
                 ∧ ((counting.inter g.opened).isEmpty = true → u.mail.raised = s.mail.raised)
                 ∧ ((counting.inter g.opened).isEmpty = false → ∃ peaks sat time capture,
                     u.mail.raised = s.mail.raised ++ [(.sequence,
                       .trip (counting.inter g.opened) h.name h.op peaks sat time h.wait capture)]))

/-- R67, R68: with a stroke in flight or an empty queue the arbiter changes nothing. A head none of whose
conditions fails is granted: it leaves the queue, its grant notice is handed with the energy wait, and its
stroke begins on its drive set with the stroke timer at 60 ms for a trip and 100 ms for a close. A head
with an empty drive set is completed by a grant notice and a result, whatever the other conditions, and the
next head is judged. Any other head waits.

R71: the expiry of the settle time lets the arbiter judge; while it runs no stroke begins.

That the arbiter reads the lever, the tags and the power state as they stand is the model's reading (log
entry 32). -/
def Obligations.ArbiterJudgesTheHead : Prop :=
  (∀ s : State,
     ((s.en.stroke.isSome = true ∨ s.en.queue = []) → judgeArbiter s = s)
       ∧ ∀ r rest, s.en.stroke = none → s.en.queue = r :: rest →
           let target : PoleState := if r.kind = .trip then .opened else .closed
           let drive : PoleSet := Tri.of fun p => r.poles.get p && decide (s.en.view.get p ≠ target)
           let tagged := s.tags.holdPending = true ∨ ∃ e ∈ s.tags.table,
             e.kind = .hotLine ∨ e.kind = .doNotClose ∨ e.kind = .systemHold
               ∨ (e.kind = .remoteBlock ∧ (r.origin = .protection ∨ r.origin = .commandRadio))
           let permitted := r.kind = .close →
             s.bat.power ≠ some .holdover ∧ s.meas.inputs.leverTripped = false ∧ ¬ tagged
           let level := match r.kind, drive.card with
             | .trip, 1 => s.cfg.prot.trip1
             | .trip, 2 => s.cfg.prot.trip2
             | .trip, _ => s.cfg.prot.trip3
             | .close, 1 => s.cfg.prot.close1
             | .close, 2 => s.cfg.prot.close2
             | .close, _ => s.cfg.prot.close3
           let grant : StrokeMsg := .grant
             { kind := r.kind, poles := r.poles, attempt := r.attempt, wait := s.elapsed - r.arrival }
           (permitted → drive.isEmpty = false → s.en.settle = none → level ≤ s.en.bank →
               judgeArbiter s = { s with
                 en := { s.en with
                   queue := rest,
                   stroke := some
                     { kind := r.kind, poles := r.poles, drive := drive, origin := r.origin,
                       joined := r.joined, attempt := r.attempt, bankAtGrant := s.en.bank, cut := false, pulse := true,
                       deadline := s.elapsed + (if r.kind = .trip then 60 else 100) } },
                 mail := { s.mail with strokes := s.mail.strokes ++ [grant] } })
             ∧ (drive.isEmpty = true →
                 judgeArbiter s = judgeArbiter { s with
                   en := { s.en with queue := rest },
                   mail := { s.mail with strokes := s.mail.strokes ++
                     [grant, .result
                       { kind := r.kind, poles := r.poles, joined := r.joined, attempt := r.attempt,
                         reached := r.poles, missed := Tri.empty, cut := false, final := true }] } })
             ∧ (drive.isEmpty = false →
                 ¬ permitted ∨ s.en.settle ≠ none ∨ s.en.bank < level → judgeArbiter s = s))
    ∧ ((∀ (d : Nat) (s : State), s.power = .running → s.en.settle = some d →
           (d ≤ s.elapsed →
               exec .settleTimeExpiry s = .next (judgeArbiter { s with en := { s.en with settle := none } }))
             ∧ (s.elapsed < d → exec .settleTimeExpiry s = .next s))
         ∧ ∀ s : State, s.en.settle ≠ none →
             (judgeArbiter s).en.stroke = s.en.stroke ∧ (judgeArbiter s).en.settle = s.en.settle)

/-- R69: a pole-state change that leaves every pole of the stroke in flight showing the target completes it:
the stroke ends, the settle time of 200 ms starts (R71), and the result lists every pole as reached; any
other change is only taken into the unit's view, and so is every change while a close has been cut, which
stays in flight until its stroke timer (R70).

R69, R72, R73: when the stroke timer expires the poles of the request that do not show the target are
missed. The settle time starts and the result is handed. A first-attempt trip is retried: its missed poles
leave the waiting first attempts, a request of attempt 2 stands at the head, which the records of those
poles that had joined the stroke or such a first attempt have joined, and the result is not final; where
eight requests still wait, the newest waiting close is displaced and refused first (R65). A second attempt
marks the missed poles FAILED, requests a rewrite and raises POLE_FAIL. Then the arbiter judges.

How a request tells which records have joined it is the model's own (log entry 56). -/
def Obligations.StrokesEnd : Prop :=
  (∀ (p : Pole) (st : PoleState) (rest : List (Pole × PoleState)) (s : State), s.power = .running →
     s.mail.enPoles = (p, st) :: rest →
     let seen := { s with
       mail := { s.mail with enPoles := rest }, en := { s.en with view := s.en.view.set p st } }
     (s.en.stroke = none → exec .strokePoleChange s = .next seen)
       ∧ ∀ k, s.en.stroke = some k →
           let target : PoleState := if k.kind = .trip then .opened else .closed
           (k.cut = false → k.poles.get p = true →
               (∀ q, k.poles.get q = true → seen.en.view.get q = target) →
               exec .strokePoleChange s = .next (judgeArbiter { seen with
                 en := { seen.en with stroke := none, settle := some (s.elapsed + 200) },
                 mail := { seen.mail with strokes := s.mail.strokes ++ [.result
                   { kind := k.kind, poles := k.poles, joined := k.joined, attempt := k.attempt,
                     reached := k.poles, missed := Tri.empty, cut := false, final := true }] } }))
             ∧ (k.cut = true ∨ k.poles.get p = false ∨ (∃ q, k.poles.get q = true ∧ seen.en.view.get q ≠ target) →
                 exec .strokePoleChange s = .next seen))
    ∧ (∀ (k : Stroke) (s : State), s.power = .running → s.en.stroke = some k →
         let target : PoleState := if k.kind = .trip then .opened else .closed
         let missed : PoleSet := Tri.of fun p => k.poles.get p && decide (s.en.view.get p ≠ target)
         let result := fun (final : Bool) => StrokeMsg.result
           { kind := k.kind, poles := k.poles, joined := k.joined, attempt := k.attempt,
             reached := k.poles.diff missed, missed := missed, cut := k.cut, final := final }
         (s.elapsed < k.deadline → exec .strokeTimeout s = .next s)
           ∧ (k.deadline ≤ s.elapsed →
               ∃ u, exec .strokeTimeout s = .next (judgeArbiter u)
                 ∧ u.en.stroke = none ∧ u.en.settle = some (s.elapsed + 200)
                 ∧ (k.kind = .close ∨ missed.isEmpty = true →
                     u.mail.strokes = s.mail.strokes ++ [result true] ∧ u.en.queue = s.en.queue
                       ∧ u.en.failed = s.en.failed ∧ u.mail.raised = s.mail.raised)
                 ∧ (k.kind = .trip → missed.isEmpty = false → k.attempt = 1 → ∃ joined : PoleSet,
                     let left := takeOut missed (StrokeRequest.isTripOf 1) s.en.queue
                     let retry : StrokeRequest :=
                       { kind := .trip, poles := missed, origin := k.origin, joined := joined,
                         arrival := s.elapsed, attempt := 2, alarm := false }
                     (∀ p, joined.get p = true ↔ missed.get p = true ∧ (k.joined.get p = true
                         ∨ ∃ r ∈ s.en.queue, r.kind = .trip ∧ r.attempt = 1 ∧ r.joined.get p = true))
                       ∧ u.en.failed = s.en.failed ∧ u.mail.raised = s.mail.raised
                       ∧ (left.length < 8 → u.en.queue = retry :: left
                           ∧ u.mail.strokes = s.mail.strokes ++ [result false])
                       ∧ ∀ before newest after, 8 ≤ left.length → left = before ++ newest :: after →
                           newest.kind = .close → (∀ r ∈ after, r.kind = .trip) →
                           u.en.queue = retry :: (before ++ after)
                             ∧ u.mail.strokes = s.mail.strokes ++
                                 [.refusal newest.poles .displaced, result false])
                 ∧ (k.kind = .trip → missed.isEmpty = false → k.attempt ≠ 1 →
                     u.mail.strokes = s.mail.strokes ++ [result true] ∧ u.en.queue = s.en.queue
                       ∧ (∀ p, u.en.failed.get p = (s.en.failed.get p || missed.get p))
                       ∧ u.mail.raised = s.mail.raised ++
                           [(.energy, .poleFail missed k.origin s.en.view k.bankAtGrant)]
                       ∧ u.ret.writing.isSome = true)))

/-- R75: a trip request that has waited 2,000 ms without its alarm raises it with one ENERGY_FAIL event that
holds its poles, its attempt, the level it needs, the bank voltage, the charger state and the power state;
it keeps its place. A trip that has not waited so long, or has raised its alarm, raises nothing.

R70, R76: the lever's change to TRIPPED stops the drive pulse of a close in flight and sets its cut flag;
a trip in flight and a change back to NORMAL cut nothing. The queue is left as it is, and the arbiter
judges.

R76: a tag in force withdraws the waiting closes that it blocks, every one for HOT_LINE, DO_NOT_CLOSE,
SYSTEM_HOLD and hold-pending, those with origin PROTECTION or COMMAND_RADIO for REMOTE_BLOCK, each refused
with the reason TAG; a removal withdraws none. The arbiter then judges.

When a due alarm is taken is the model's (log entry 24); the level for no poles is free (log entry 57);
the queue order of several refusals is its choice (log entry 78). -/
def Obligations.AlarmsAndWithdrawnCloses : Prop :=
  (∀ (p : Pole) (before after : List StrokeRequest) (r : StrokeRequest) (s : State),
     s.power = .running → s.en.queue = before ++ r :: after → r.kind = .trip →
     r.poles.get p = true → (∀ x ∈ before ++ after, x.poles.get p = false) →
     let drive : PoleSet := Tri.of fun q => r.poles.get q && decide (s.en.view.get q ≠ .opened)
     let level := match drive.card with
       | 0 => Config.levelOfNone
       | 1 => s.cfg.prot.trip1
       | 2 => s.cfg.prot.trip2
       | _ => s.cfg.prot.trip3
     (r.alarm = false → r.arrival + 2000 ≤ s.elapsed →
         exec (.energyFail p) s = .next (withRecord .energy
           (.energyFail r.poles r.attempt level s.en.bank s.en.charger s.bat.power)
           { s with en := { s.en with queue := before ++ { r with alarm := true } :: after } }))
       ∧ (r.alarm = true ∨ s.elapsed < r.arrival + 2000 → exec (.energyFail p) s = .next s))
    ∧ (∀ (tripped : Bool) (rest : List Bool) (s : State), s.power = .running →
         s.mail.enLever = tripped :: rest →
         let left := { s with mail := { s.mail with enLever := rest } }
         (∀ k, s.en.stroke = some k → tripped = true → k.kind = .close →
             exec .strokeLeverChange s = .next { left with
               en := { s.en with stroke := some { k with cut := true, pulse := false } } })
           ∧ (∀ k, s.en.stroke = some k → tripped = false ∨ k.kind = .trip →
               exec .strokeLeverChange s = .next left)
           ∧ (s.en.stroke = none → exec .strokeLeverChange s = .next (judgeArbiter left)))
    ∧ (∀ (sig : TagSignal) (rest : List TagSignal) (s : State), s.power = .running →
         s.mail.enTags = sig :: rest →
         let blocked := fun (r : StrokeRequest) =>
           decide (r.kind = .close) &&
             (decide (sig ∈ [.inForce .hotLine, .inForce .doNotClose, .inForce .systemHold, .holdSet])
               || (decide (sig = .inForce .remoteBlock)
                 && decide (r.origin = .protection ∨ r.origin = .commandRadio)))
         exec .energyTagSignal s = .next (judgeArbiter { s with
           en := { s.en with queue := s.en.queue.filter fun r => !blocked r },
           mail := { s.mail with
             enTags := rest,
             strokes := s.mail.strokes ++
               (s.en.queue.filter blocked).map fun r => .refusal r.poles .tag } }))

/-! ## Tags -/

/-- R83, R84, R92: TAG_PLACE refuses by the first check that fails: BAD_VALUE for no kind, or a crew code
above 9,999 for HOT_LINE and DO_NOT_CLOSE; REFUSED_SOURCE for SYSTEM_HOLD; NOT_ROSTERED; ALREADY_HELD;
TABLE_FULL. An accepted placement appends a placing entry, hands "tag in force", hands "armed" for the
first HOT_LINE, asks for a rewrite and leaves the reply owed.

R85, R86, R91, R92: TAG_REMOVE is refused BAD_VALUE for no kind, NOT_ROSTERED for a code not on the
roster, NOT_HELD without a candidate, and REFUSED_SOURCE for SYSTEM_HOLD by a code that is no supervisor's.
An accepted removal is written into the oldest candidate, which stays in its place, and asks for a rewrite;
hold-pending is removed at once. That a cabinet removal of SYSTEM_HOLD counts as one by supervisor rights
is the model's reading (log entry 17).

A BAD_VALUE without a field index, and which removals are marked as a supervisor's, are the model's
readings (log entries 9 and 17). -/
def Obligations.CabinetPlacesAndRemovesTags : Prop :=
  (∀ (tag kind : Byte) (crew : Half) (s : State), Ready s →
     (4 ≤ kind.toNat →
         exec (.tagPlace tag kind crew) s = .next (replied 11#8 tag .badValue (.badField none) s))
       ∧ ∀ k : TagKind, kind.toNat = k.code →
           let crewTag : Prop := k = .hotLine ∨ k = .doNotClose
           let large := crewTag ∧ 9999 < crew.toNat
           let rostered := crewTag → ∃ e ∈ s.cfg.roster, e.code = crew.toNat
           let held := ∃ e ∈ s.tags.table, e.kind = k ∧ (crewTag → e.crew = some crew.toNat)
           let refused := fun (code : ResultCode) =>
             exec (.tagPlace tag kind crew) s = .next (replied 11#8 tag code .nothing s)
           (large →
               exec (.tagPlace tag kind crew) s = .next (replied 11#8 tag .badValue (.badField none) s))
             ∧ (k = .systemHold → refused .refusedSource)
             ∧ (k ≠ .systemHold → ¬ large → ¬ rostered → refused .notRostered)
             ∧ (k ≠ .systemHold → ¬ large → rostered → held → refused .alreadyHeld)
             ∧ (k ≠ .systemHold → ¬ large → rostered → ¬ held → 8 ≤ s.tags.table.length →
                 refused .tableFull)
             ∧ (k ≠ .systemHold → ¬ large → rostered → ¬ held → s.tags.table.length < 8 →
                 exec (.tagPlace tag kind crew) s = .next (requestRewrite { owing 11#8 tag s with
                   tags := { s.tags with table := s.tags.table ++
                     [{ kind := k, crew := if k = .remoteBlock then none else some crew.toNat,
                        source := .cabinet, placedAt := s.clock, retained := false, reported := false,
                        removal := none, mark := .none, replyTo := .cabinet s.cab.nextRequest }] },
                   mail := { s.mail with
                     seqTags := s.mail.seqTags ++ [.inForce k], enTags := s.mail.enTags ++ [.inForce k],
                     arming := s.mail.arming ++
                       (if k = .hotLine ∧ (∀ e ∈ s.tags.table, e.kind ≠ .hotLine) then [true]
                         else []) } })))
    ∧ (∀ (tag kind : Byte) (crew : Half) (s : State), Ready s →
         (4 ≤ kind.toNat →
             exec (.tagRemove tag kind crew) s = .next (replied 12#8 tag .badValue (.badField none) s))
           ∧ ∀ k : TagKind, kind.toNat = k.code →
               let rostered := ∃ e ∈ s.cfg.roster, e.code = crew.toNat
               let supervisor := ∃ e ∈ s.cfg.roster, e.code = crew.toNat ∧ e.supervisor = true
               let candidate := fun (e : TagEntry) =>
                 e.kind = k ∧ e.removal = none
                   ∧ (k = .hotLine ∨ k = .doNotClose → e.crew = some crew.toNat)
               let pendingHold := k = .systemHold ∧ s.tags.holdPending = true
               let removal : Removal :=
                 { source := .cabinet, code := some crew.toNat, supervisor := decide (k = .systemHold),
                   replyTo := .cabinet s.cab.nextRequest }
               let refused := fun (code : ResultCode) =>
                 exec (.tagRemove tag kind crew) s = .next (replied 12#8 tag code .nothing s)
               (¬ rostered → refused .notRostered)
                 ∧ (rostered → (∀ e ∈ s.tags.table, ¬ candidate e) → ¬ pendingHold → refused .notHeld)
                 ∧ (rostered → k = .systemHold → ¬ supervisor →
                     (∃ e ∈ s.tags.table, candidate e) ∨ pendingHold → refused .refusedSource)
                 ∧ (∀ before e after, rostered → (k = .systemHold → supervisor) →
                     s.tags.table = before ++ e :: after → candidate e → (∀ x ∈ before, ¬ candidate x) →
                     exec (.tagRemove tag kind crew) s = .next (requestRewrite { owing 12#8 tag s with
                       tags := { s.tags with
                         table := before ++ ({ e with removal := some removal } :: after) } }))
                 ∧ (supervisor → pendingHold → (∀ e ∈ s.tags.table, ¬ candidate e) →
                     exec (.tagRemove tag kind crew) s = .next (withRecord .tags
                       (.tagRemoved .systemHold none .cabinet (some crew.toNat) true none true)
                       (replied 12#8 tag .ok .nothing { s with
                         tags := { s.tags with holdPending := false },
                         mail := { s.mail with
                           seqTags := s.mail.seqTags ++ [.holdCleared],
                           enTags := s.mail.enTags ++ [.holdCleared] } }))))

/-- R92, R93: TAG_LIST is answered at once with hold-pending and the entries in table order, an entry both
placing and removing shown as REMOVING; TAG_QUERY carries the same content into the reply slot.

R93: BLOCK_SET is a placement of REMOTE_BLOCK, refused ALREADY_HELD or TABLE_FULL, and BLOCK_CLEAR a
removal of it, refused NOT_HELD. A refusal enters the reply slot at once; an accepted one asks for a
rewrite, and its result waits for the report. -/
def Obligations.TagListsAndTheRemoteBlock : Prop :=
  (∀ (tag : Byte) (s : State),
     let lines : List TagLine := s.tags.table.map fun e =>
       { kind := e.kind, crew := e.crew, source := e.source, placedAt := e.placedAt,
         retained := e.retained,
         status := if e.removal.isSome then .removing else if e.reported then .settled else .placing }
     (Ready s →
         exec (.tagList tag) s = .next (replied 13#8 tag .ok (.tags s.tags.holdPending lines) s))
       ∧ (Hearing s →
           exec (.tagQuery tag) s
             = .next (judgeSend (withSlot 7#8 tag .ok (some (s.tags.holdPending, lines)) s))))
    ∧ (∀ (number : Byte) (s : State), Hearing s →
         let held := ∃ e ∈ s.tags.table, e.kind = .remoteBlock
         let removal : Removal :=
           { source := .radio, code := none, supervisor := false, replyTo := .radio 5#8 number }
         (held →
             exec (.blockSet number) s = .next (judgeSend (withSlot 4#8 number .alreadyHeld none s)))
           ∧ (¬ held → 8 ≤ s.tags.table.length →
               exec (.blockSet number) s = .next (judgeSend (withSlot 4#8 number .tableFull none s)))
           ∧ (¬ held → s.tags.table.length < 8 →
               exec (.blockSet number) s = .next (requestRewrite { s with
                 tags := { s.tags with table := s.tags.table ++
                   [{ kind := .remoteBlock, crew := none, source := .radio, placedAt := s.clock,
                      retained := false, reported := false, removal := none, mark := .none,
                      replyTo := .radio 4#8 number }] },
                 mail := { s.mail with
                   seqTags := s.mail.seqTags ++ [.inForce .remoteBlock],
                   enTags := s.mail.enTags ++ [.inForce .remoteBlock] } }))
           ∧ ((∀ e ∈ s.tags.table, e.kind = .remoteBlock → e.removal ≠ none) →
               exec (.blockClear number) s = .next (judgeSend (withSlot 5#8 number .notHeld none s)))
           ∧ ∀ before e after, s.tags.table = before ++ e :: after → e.kind = .remoteBlock →
               e.removal = none → (∀ x ∈ before, x.kind = .remoteBlock → x.removal ≠ none) →
               exec (.blockClear number) s = .next (requestRewrite { s with
                 tags := { s.tags with
                   table := before ++ ({ e with removal := some removal } :: after) } }))

/-- R94, R95, R96, R98: a valid token frame is handed on as "crew frame", which outside HOLDOVER opens or
restarts the crew-visit window of 15 minutes and turns the cabinet switch on (R118). A frame that finds the
buffer empty enters service, one that finds others waits behind them, and one that finds four is discarded,
and raises OPTICAL_OVERRUN unless the note is set. When the reply's last byte has gone the frame leaves the
buffer, and the next one enters service as an arrival at an empty buffer does; an empty buffer clears the
note. A gap of more than 20 ms discards the open frame. A block restart empties the port.

The model's own number of a frame is log entry 43, the taking of a gap log entry 52. -/
def Obligations.OpticalFramesAreBuffered : Prop :=
  ∀ (crew : Half) (number : Byte) (s : State), s.power = .running →
    let seen := if s.bat.power = some .holdover then s else { s with
      bat := { s.bat with window := some (s.elapsed + 900000), cabinetSwitch := true },
      mail := { s.mail with
        cabinetPower := s.mail.cabinetPower ++ (if s.bat.cabinetSwitch then [] else [true]) } }
    (∀ c a, (c, a) ∈ [(Instr.placeHotLine crew number, 0#8), (.placeDoNotClose crew number, 1#8),
          (.removeHotLine crew number, 2#8), (.removeDoNotClose crew number, 3#8),
          (.removeSystemHold crew number, 4#8), (.query crew number, 5#8)] →
        (s.readsDone = false → exec c s = .next s)
          ∧ (s.readsDone = true → 4 ≤ s.opt.buffer.length →
              exec c s = .next (if s.opt.overrun then seen else
                withRecord .tags (.opticalOverrun number crew)
                  { seen with opt := { s.opt with overrun := true } }))
          ∧ (s.readsDone = true → s.opt.buffer = [] →
              let f : TokenFrame :=
                { id := s.opt.nextFrame, crew := crew, action := a, number := number }
              exec c s = .next (serveToken f { seen with opt := { s.opt with
                buffer := [f], nextFrame := s.opt.nextFrame + 1 } }))
          ∧ (s.readsDone = true → s.opt.buffer ≠ [] → s.opt.buffer.length < 4 →
              exec c s = .next { seen with opt := { s.opt with
                buffer := s.opt.buffer ++
                  [{ id := s.opt.nextFrame, crew := crew, action := a, number := number }],
                nextFrame := s.opt.nextFrame + 1 } }))
      ∧ (∀ r f, s.opt.sending = some r → s.opt.buffer = [f] →
          exec .opticalReplySent s = .next { s with opt := { s.opt with
            sending := none, sent := s.opt.sent ++ [r], buffer := [], overrun := false } })
      ∧ (∀ r f g waiting, s.opt.sending = some r → s.opt.buffer = f :: g :: waiting →
          exec .opticalReplySent s = .next (serveToken g { s with opt := { s.opt with
            sending := none, sent := s.opt.sent ++ [r], buffer := g :: waiting } }))
      ∧ (s.opt.sending = none → exec .opticalReplySent s = .next s)
      ∧ (s.opt.lastByte + 20 < s.elapsed →
          exec .opticalFrameGap s = .next { s with opt := { s.opt with openBytes := [] } })
      ∧ (s.elapsed ≤ s.opt.lastByte + 20 → exec .opticalFrameGap s = .next s)
      ∧ ∀ tag, Ready s →
          exec (.blockRestartOptical tag) s = .next (replied 26#8 tag .ok .nothing { s with
            opt := { s.opt with openBytes := [], sending := none, buffer := [], overrun := false } })

/-- R96, R97: a frame that finds the buffer empty enters service at once. A refusal and a QUERY are answered
at once, the reply echoing crew code, action and frame number; an accepted placement or removal asks for a
rewrite and leaves the reply for the report. The refusals are those of R83 and R85; a supervisor without a
tag of the kind removes the oldest one.

That a crew's removal of a SYSTEM_HOLD is not marked as a supervisor's is the model's reading (log entry
17). -/
def Obligations.OpticalFramesAreServed : Prop :=
  ∀ (crew : Half) (number : Byte) (s : State), s.power = .running → s.readsDone = true →
    s.opt.buffer = [] → s.opt.sending = none →
    let seen := if s.bat.power = some .holdover then s else { s with
      bat := { s.bat with window := some (s.elapsed + 900000), cabinetSwitch := true },
      mail := { s.mail with
        cabinetPower := s.mail.cabinetPower ++ (if s.bat.cabinetSwitch then [] else [true]) } }
    let joined := fun (action : Byte) => { seen with opt := { s.opt with
      buffer := [{ id := s.opt.nextFrame, crew := crew, action := action, number := number }],
      nextFrame := s.opt.nextFrame + 1 } }
    let reply := fun (action : Byte) (code : ResultCode) (lines : Option (List TagLine)) (t : State) =>
      let r : OpticalReply :=
        { crew := crew, action := action, number := number, result := code,
          count := t.tags.table.length, hold := t.tags.holdPending, lines := lines }
      { t with opt := { t.opt with sending := some r } }
    let rostered := ∃ e ∈ s.cfg.roster, e.code = crew.toNat
    let supervisor := ∃ e ∈ s.cfg.roster, e.code = crew.toNat ∧ e.supervisor = true
    let removal := fun (rights : Bool) => some (
      { source := .optical, code := some crew.toNat, supervisor := rights,
        replyTo := .optical s.opt.nextFrame } : Removal)
    exec (.query crew number) s = .next (reply 5#8 .ok
        (some (s.tags.table.map fun e => (
          { kind := e.kind, crew := e.crew, source := e.source, placedAt := e.placedAt,
            retained := e.retained,
            status :=
              if e.removal.isSome then .removing else if e.reported then .settled else .placing }
            : TagLine)))
        (joined 5#8))
      ∧ (∀ k c a, (k, c, a) ∈ [(TagKind.hotLine, Instr.placeHotLine crew number, 0#8),
            (.doNotClose, .placeDoNotClose crew number, 1#8)] →
          let held := ∃ e ∈ s.tags.table, e.kind = k ∧ e.crew = some crew.toNat
          (¬ rostered → exec c s = .next (reply a .notRostered none (joined a)))
            ∧ (rostered → held → exec c s = .next (reply a .alreadyHeld none (joined a)))
            ∧ (rostered → ¬ held → 8 ≤ s.tags.table.length →
                exec c s = .next (reply a .tableFull none (joined a)))
            ∧ (rostered → ¬ held → s.tags.table.length < 8 →
                exec c s = .next (requestRewrite { joined a with
                  tags := { s.tags with table := s.tags.table ++
                    [{ kind := k, crew := some crew.toNat, source := .optical, placedAt := s.clock,
                       retained := false, reported := false, removal := none, mark := .none,
                       replyTo := .optical s.opt.nextFrame }] },
                  mail := { seen.mail with
                    seqTags := s.mail.seqTags ++ [.inForce k], enTags := s.mail.enTags ++ [.inForce k],
                    arming := s.mail.arming ++
                      (if k = .hotLine ∧ (∀ e ∈ s.tags.table, e.kind ≠ .hotLine) then [true]
                        else []) } })))
      ∧ (∀ k c a, (k, c, a) ∈ [(TagKind.hotLine, Instr.removeHotLine crew number, 2#8),
            (.doNotClose, .removeDoNotClose crew number, 3#8)] →
          let candidate := fun (e : TagEntry) => e.kind = k ∧ e.removal = none
          let own := fun (e : TagEntry) => candidate e ∧ e.crew = some crew.toNat
          (¬ rostered → exec c s = .next (reply a .notRostered none (joined a)))
            ∧ (rostered → (∀ e ∈ s.tags.table, ¬ candidate e) →
                exec c s = .next (reply a .notHeld none (joined a)))
            ∧ (rostered → ¬ supervisor → (∃ e ∈ s.tags.table, candidate e) →
                (∀ e ∈ s.tags.table, ¬ own e) →
                exec c s = .next (reply a .refusedSource none (joined a)))
            ∧ (∀ before e after, s.tags.table = before ++ e :: after →
                (rostered → own e → (∀ x ∈ before, ¬ own x) →
                    exec c s = .next (requestRewrite { joined a with tags := { s.tags with
                      table := before ++ ({ e with removal := removal false } :: after) } }))
                  ∧ (supervisor → candidate e → (∀ x ∈ before, ¬ candidate x) →
                      (∀ x ∈ s.tags.table, ¬ own x) →
                      exec c s = .next (requestRewrite { joined a with tags := { s.tags with
                        table := before ++ ({ e with removal := removal true } :: after) } }))))
      ∧ (let c := Instr.removeSystemHold crew number
         let candidate := fun (e : TagEntry) => e.kind = .systemHold ∧ e.removal = none
         (¬ rostered → exec c s = .next (reply 4#8 .notRostered none (joined 4#8)))
           ∧ (rostered → (∀ e ∈ s.tags.table, ¬ candidate e) → s.tags.holdPending = false →
               exec c s = .next (reply 4#8 .notHeld none (joined 4#8)))
           ∧ (∀ before e after, rostered → s.tags.table = before ++ e :: after → candidate e →
               (∀ x ∈ before, ¬ candidate x) →
               exec c s = .next (requestRewrite { joined 4#8 with tags := { s.tags with
                 table := before ++ ({ e with removal := removal false } :: after) } }))
           ∧ (rostered → (∀ e ∈ s.tags.table, ¬ candidate e) → s.tags.holdPending = true →
               exec c s = .next (withRecord .tags
                 (.tagRemoved .systemHold none .optical (some crew.toNat) false none true)
                 (reply 4#8 .ok none { joined 4#8 with
                   tags := { s.tags with holdPending := false },
                   mail := { seen.mail with
                     seqTags := s.mail.seqTags ++ [.holdCleared],
                     enTags := s.mail.enTags ++ [.holdCleared] } }))))

/-! ## Retained store and start-up -/

/-- R87, R121: a request for a rewrite that finds no write in hand starts one: it takes the whole content, the
entries that are not removing in table order, the counters, the FAILED marks and the base, clears
rewrite-pending and the valid marker on the chip, marks every entry HELD or LEFT, and covers the replies owed.
One that finds a write in hand sets rewrite-pending and touches nothing else.

R122, R123: when a retained write ends, every reply owed for a change it covers is answered, OK without a
fault and OK_NOT_RETAINED with one, and later changes wait. A fault makes the store SUSPECT with one
STORE_FAULT event and one more write when it was GOOD, sets the STORE_FAULT flag each time, and leaves on
the chip a record that nothing constrains but for the previous event-number base (R125); without one the
chip holds the written content and the store is GOOD. The next write starts at once when one is pending, and
clears the valid marker (R121). COUNTER_SET and POLE_FAIL_CLEAR are answered so whatever tags the same write
reports (R11, R77).

What a faulted write leaves on the chip beside the base is free (log entry 6). -/
def Obligations.RetainedWriteCompletes : Prop :=
  (∀ s : State,
     (s.ret.writing = none → requestRewrite s = { s with
         ret := { s.ret with
           writing := some
             { tags := (s.tags.table.filter fun e => e.removal.isNone).map fun e =>
                 { kind := e.kind, crew := e.crew, source := e.source, placedAt := e.placedAt },
               counters := s.meas.counters, failed := s.en.failed, base := s.eq.base },
           rewrite := false, chip := { s.ret.chip with marker := false } },
         tags := { s.tags with table := s.tags.table.map fun e =>
           { e with mark := if e.removal.isNone then .held else .left } },
         meas := { s.meas with owed := s.meas.owed.map fun w => { w with covered := true } },
         en := { s.en with owed := s.en.owed.map fun w => { w with covered := true } } })
       ∧ (s.ret.writing ≠ none → requestRewrite s = { s with ret := { s.ret with rewrite := true } }))
    ∧ (∀ (fault : Bool) (content : RetainedContent) (s : State), s.power = .running →
         (s.ret.writing = none → exec (.retainedWriteComplete fault) s = .next s)
           ∧ (s.ret.writing = some content → (∀ e ∈ s.tags.table, e.mark = .none) →
               let again := s.ret.rewrite || (fault && !s.ret.suspect)
               let covered := (s.meas.owed ++ s.en.owed).filter OwedWrite.covered
               ∃ t, exec (.retainedWriteComplete fault) s = .next t
                 ∧ t = { s with
                     ret := t.ret, tags := { s.tags with table := t.tags.table }, meas := { s.meas with owed := t.meas.owed },
                     en := { s.en with owed := t.en.owed }, cab := t.cab, mail := t.mail,
                     free := s.free + fault.toNat }
                 ∧ (∀ o, s.cab.owed = some o →
                     ((∀ w ∈ covered, w.request ≠ o.request) →
                         t.cab.owed = some o ∧ t.cab.replies = s.cab.replies)
                       ∧ ((∃ w ∈ covered, w.request = o.request) →
                           t.cab.owed = none ∧ t.cab.replies = s.cab.replies ++
                             [{ kind := o.kind, tag := o.tag,
                                code := if fault then .okNotRetained else .ok, content := .nothing }]))
                 ∧ t.cab.flags = { s.cab.flags with storeFault := s.cab.flags.storeFault || fault }
                 ∧ t.mail = { s.mail with raised := s.mail.raised ++
                     (if fault = true ∧ s.ret.suspect = false then [(.retainedStore, .storeFault none)]
                       else []) }
                 ∧ t.ret.suspect = fault ∧ t.ret.rewrite = false ∧ t.ret.writing.isSome = again
                 ∧ (let lost := Config.faultedRecord s.free
                    let image := if fault then
                        { lost with content := { lost.content with base := s.ret.chip.content.base } }
                      else { marker := true, content := content, crc := crc16 content.bytes }
                    t.ret.chip = if again then { image with marker := false } else image)
                 ∧ (again = false → t.tags = s.tags
                     ∧ t.meas.owed = s.meas.owed.filter (fun w => !w.covered)
                     ∧ t.en.owed = s.en.owed.filter (fun w => !w.covered))
                 ∧ (again = true →
                     t.ret.writing = some
                         { tags := (s.tags.table.filter fun e => e.removal.isNone).map fun e =>
                             { kind := e.kind, crew := e.crew, source := e.source, placedAt := e.placedAt },
                           counters := s.meas.counters, failed := s.en.failed, base := s.eq.base }
                       ∧ t.tags.table = s.tags.table.map (fun e =>
                           { e with mark := if e.removal.isNone then .held else .left })
                       ∧ (∀ w ∈ t.meas.owed, w.covered = true) ∧ (∀ w ∈ t.en.owed, w.covered = true)))
           ∧ (s.ret.writing = some content →
               let covered := (s.meas.owed ++ s.en.owed).filter OwedWrite.covered
               let told := fun (request : Nat) => ∃ e ∈ s.tags.table,
                 (e.mark ≠ .none ∧ e.reported = false ∧ e.replyTo = .cabinet request)
                   ∨ (e.mark = .left ∧ ∃ r, e.removal = some r ∧ r.replyTo = .cabinet request)
               ∃ t, exec (.retainedWriteComplete fault) s = .next t
                 ∧ (∀ o, s.cab.owed = some o → ¬ told o.request → (∃ w ∈ covered, w.request = o.request) →
                     t.cab.owed = none ∧ t.cab.replies = s.cab.replies ++
                       [{ kind := o.kind, tag := o.tag, code := if fault then .okNotRetained else .ok,
                          content := .nothing }])
                 ∧ (∀ o, s.cab.owed = some o → ¬ told o.request → (∀ w ∈ covered, w.request ≠ o.request) →
                     t.cab.owed = some o ∧ t.cab.replies = s.cab.replies)
                 ∧ t.cab.flags = { s.cab.flags with storeFault := s.cab.flags.storeFault || fault }
                 ∧ (let later := fun (l : List OwedWrite) => (l.filter fun w => !w.covered).map fun w =>
                      { w with covered := t.ret.writing.isSome }
                    t.meas.owed = later s.meas.owed ∧ t.en.owed = later s.en.owed)
                 ∧ (fault = false → t.ret.chip =
                     { marker := t.ret.writing.isNone, content := content, crc := crc16 content.bytes })))

/-- R88, R89, R91: at the completion of a retained write the entries it holds get their retained field and have
their placement reported, and the entries it leaves out are reported and dropped; TAG_PLACED and TAG_REMOVED
go out in table order, placements first. Each drop is signalled in table order, with the number of its kind
that its drop leaves, and "disarmed" goes out as the last HOT_LINE entry drops. A pending hold takes the
freed slot, "tag in force" before "hold-pending cleared". The first fault of a GOOD store raises STORE_FAULT
after them; it, a pending rewrite and a filled slot start the next write at once, which takes the content as
it then stands and marks every entry anew (R121 to R123).

R88, R93, R97, R154: at the completion of a retained write every report of a placement or a removal goes to
the source of its request, OK without a fault or for a placement first left out, OK_NOT_RETAINED with one,
placements first. The cabinet request that is owed gets the first report due to it, and otherwise waits; the
optical frame in service gets the first due to it; each due to the master station enters the reply slot, the
last one staying, and an idle radio sends a single one when its credit covers the cost.

The report of a placement first marked LEFT, and the order of the drops, are the model's readings (log
entries 29 and 30); that every placement is reported before the first drop is its choice (log entry 70);
a RESULT of eight bytes is log entry 69. -/
def Obligations.TagsAreReportedAndDropped : Prop :=
  (∀ (fault : Bool) (content : RetainedContent) (s : State), s.power = .running →
     s.ret.writing = some content →
     let kept : List TagEntry := (s.tags.table.filter fun e => decide (e.mark ≠ .left)).map fun e =>
       if e.mark = .held then { e with retained := !fault, reported := true, mark := .none } else e
     let left := s.tags.table.filter fun e => decide (e.mark = .left)
     let placed := s.tags.table.filterMap fun e =>
       if e.reported = true ∨ e.mark = .none then none
       else some (RecordSource.tags, EventBody.tagPlaced e.kind e.crew e.source e.placedAt
         (decide (e.mark = .held) && !fault))
     let removed := left.filterMap fun e => e.removal.map fun r =>
       (RecordSource.tags, EventBody.tagRemoved e.kind e.crew r.source r.code r.supervisor (some (!fault))
         false)
     let fills := left ≠ [] ∧ s.tags.holdPending = true ∧ kept.length < 8
       ∧ ∀ e ∈ kept, e.kind ≠ .systemHold
     let behind := fun (i : Nat) (k : TagKind) =>
       ((kept ++ left.drop (i + 1)).filter fun x => decide (x.kind = k)).length
     let signals := ((List.range left.length).filterMap fun i => left[i]?.map fun e =>
         TagSignal.removed e.kind (behind i e.kind))
       ++ (if fills then [.inForce .systemHold, .holdCleared] else [])
     let disarmed : List Bool := (List.range left.length).filterMap fun i => left[i]?.bind fun (e : TagEntry) =>
       if e.kind = .hotLine ∧ behind i .hotLine = 0 then some false else none
     let again := s.ret.rewrite || (fault && !s.ret.suspect)
     let marked := fun (l : List TagEntry) => l.map fun e =>
       { e with mark := if e.removal.isNone then .held else .left }
     ∃ t, exec (.retainedWriteComplete fault) s = .next t
       ∧ t.mail.raised = s.mail.raised ++ placed ++ removed ++
           (if fault = true ∧ s.ret.suspect = false then [(.retainedStore, .storeFault none)] else [])
       ∧ t.ret.suspect = fault ∧ t.ret.rewrite = false
       ∧ (t.ret.writing.isSome = true ↔ again = true ∨ fills)
       ∧ (∀ next, t.ret.writing = some next →
           marked t.tags.table = t.tags.table ∧ t.ret.chip.marker = false
             ∧ next = { tags := (t.tags.table.filter fun e => e.removal.isNone).map TagEntry.stored,
                        counters := s.meas.counters, failed := s.en.failed, base := s.eq.base })
       ∧ (¬ fills → t.tags = { s.tags with table := if again then marked kept else kept })
       ∧ t.mail.seqTags = s.mail.seqTags ++ signals
       ∧ t.mail.enTags = s.mail.enTags ++ signals
       ∧ t.mail.arming = s.mail.arming ++ disarmed
       ∧ (fills → t.tags.holdPending = false
           ∧ t.tags.table.map (fun e => (e.kind, e.crew, e.source))
               = kept.map (fun e => (e.kind, e.crew, e.source)) ++ [(.systemHold, none, .internal)]))
    ∧ (∀ (fault : Bool) (content : RetainedContent) (s : State), s.power = .running →
         s.ret.writing = some content →
         let outcome : ResultCode := if fault then .okNotRetained else .ok
         let left := s.tags.table.filter fun e => decide (e.mark = .left)
         let placed : List (ReplyTo × ResultCode) := s.tags.table.filterMap fun e =>
           if e.reported = true ∨ e.mark = .none then none
           else some (e.replyTo, if e.mark = .held then outcome else .ok)
         let removed : List (ReplyTo × ResultCode) := left.filterMap fun e =>
           e.removal.map fun r => (r.replyTo, outcome)
         let answersTo := fun (source : ReplyTo) =>
           ((placed ++ removed).filter fun x => decide (x.1 = source)).map Prod.snd
         let results := (placed ++ removed).filterMap fun x =>
           match x.1 with
           | .radio command number => some ({ command := command, number := number, code := x.2, tags := none,
                                              inSend := false } : SlotResult)
           | _ => none
         ∃ t, exec (.retainedWriteComplete fault) s = .next t
           ∧ (∀ o code more, s.cab.owed = some o → answersTo (.cabinet o.request) = code :: more →
               t.cab.owed = none ∧ t.cab.replies = s.cab.replies ++
                 [{ kind := o.kind, tag := o.tag, code := code, content := .nothing }])
           ∧ (∀ o, s.cab.owed = some o → answersTo (.cabinet o.request) = [] →
               (∀ w ∈ s.meas.owed ++ s.en.owed, w.covered = true → w.request ≠ o.request) →
               t.cab.owed = some o ∧ t.cab.replies = s.cab.replies)
           ∧ (∀ f fs code more, s.opt.buffer = f :: fs → s.opt.sending = none →
               answersTo (.optical f.id) = code :: more →
               ∃ count hold, t.opt = { s.opt with
                   sending := some
                     { crew := f.crew, action := f.action, number := f.number, result := code, count := count,
                       hold := hold, lines := none } }
                 ∧ (left = [] → count = s.tags.table.length ∧ hold = s.tags.holdPending)
                 ∧ (∀ e, left = [e] → (∀ x ∈ placed, x.1 ≠ .optical f.id) →
                     count = s.tags.table.length - 1 ∧ (s.tags.holdPending = false → hold = false)))
           ∧ ((∀ f fs, s.opt.buffer = f :: fs → s.opt.sending = none → answersTo (.optical f.id) = []) →
               t.opt = s.opt)
           ∧ (results = [] → t.rad = s.rad ∧ t.eq = s.eq)
           ∧ (results ≠ [] → s.rad.state ≠ .idle →
               t.eq = s.eq ∧ t.rad = { s.rad with slot := results.getLast? })
           ∧ (∀ r, results = [r] → s.rad.state = .idle →
               let cost := packetCost s.cfg.radio 8
               (s.rad.credit < cost → t.eq = s.eq ∧ t.rad = { s.rad with slot := some r })
                 ∧ (cost ≤ s.rad.credit → t.rad.state = .transmitting
                     ∧ t.rad.slot = some { r with inSend := true } ∧ t.rad.credit = s.rad.credit - cost))
           ∧ (∀ r, results.getLast? = some r → ∃ sent, t.rad.slot = some { r with inSend := sent }))

/-- R127, R125: at the reads of a start a valid record restores the tag table, every entry retained and
settled, the counters, the FAILED marks and the numbering, and the write of the advanced base starts; with
an invalid one the table holds SYSTEM_HOLD from INTERNAL alone, everything else is at its empty value, and
RETAINED_LOST is raised first. A block whose stored copy is good goes into force.

R129, R35: protection is set up on the second of the reads of the start and the settling of the inputs,
whichever comes last: the records are created from the pole states and the FAILED marks, every open or FAILED
pole in LOCKOUT START_OPEN and the others locked out with it, the closed poles then tripped, and protection at
rest is reported. On the first of the two, nothing is set up.

R128: a block whose stored copy is missing or fails its CRC is replaced by its defaults, with a
SETTINGS_DEFAULTED event and a write of the defaults; a bad PROTECTION or CURVE block has SYSTEM_HOLD
placed, or hold-pending set.

R128: a settings write that is read back well leaves the block with its CRC in the store; one whose
read-back fails leaves no good copy, raises STORE_FAULT naming the block and sets the flag. The writes that
wait follow in order, each with the content in force when it starts.

That one request for a rewrite stands for both, that the start's tag signals are taken with the reads,
the check named where both failed, and the cause THREE_POLE of the closed poles in GANGED mode, are the
model's readings (log entries 15, 22, 53 and 72); the order in which the blocks are read is its choice
(log entry 75). -/
def Obligations.StartUpReadsAndSettingsWrites : Prop :=
  (∀ s : State, s.power = .running → s.readsDone = false → s.meas.settled = false →
     s.ret.writing = none → s.tags.holdPending = false →
     (∀ b, ∃ x, storedCopy s.store.stored b = some x ∧ x.crc = crc16 x.content.bytes
       ∧ x.content.name = b) →
     let chip := s.ret.chip
     let valid := chip.marker = true ∧ chip.crc = crc16 chip.content.bytes
     ∃ t, exec .startUpReads s = .next t ∧ t.readsDone = true
       ∧ (∀ b x, storedCopy s.store.stored b = some x → contentInForce t.cfg b = x.content)
       ∧ t.store = s.store ∧ t.seq.created = s.seq.created
       ∧ t.rad.credit = min s.rad.credit t.cfg.radio.cap
       ∧ (valid →
           t.tags.table = chip.content.tags.map (fun e =>
               { kind := e.kind, crew := e.crew, source := e.source, placedAt := e.placedAt,
                 retained := true, reported := true, removal := none, mark := .held,
                 replyTo := .nobody })
             ∧ t.meas.counters = chip.content.counters ∧ t.en.failed = chip.content.failed
             ∧ t.eq.next = (chip.content.base + 64) % 65536
             ∧ t.eq.base = (chip.content.base + 128) % 65536
             ∧ t.ret.writing = some { chip.content with base := (chip.content.base + 128) % 65536 }
             ∧ t.mail.raised = s.mail.raised
             ∧ t.oc.armed = chip.content.tags.any (fun e => decide (e.kind = .hotLine)))
       ∧ (¬ valid →
           t.tags.table.map (fun e => (e.kind, e.crew, e.source, e.retained, e.reported))
               = [(.systemHold, none, .internal, false, false)]
             ∧ t.meas.counters = { a := 0, b := 0, c := 0 }
             ∧ t.en.failed = { a := false, b := false, c := false }
             ∧ t.eq.next = 0 ∧ t.eq.base = 64 ∧ t.ret.writing.isSome = true
             ∧ t.mail.raised = s.mail.raised ++
                 [(.startUp, .retainedLost (if chip.marker then .crc else .marker))]
             ∧ t.oc.armed = false))
    ∧ (∀ (levels : InputLevels) (s : State), s.power = .running → s.seq.created = false →
         (s.readsDone = false → s.meas.settled = true → ∃ t, exec .startUpReads s = .next t ∧ ProtectionSetUp s t)
           ∧ (s.readsDone = true → s.meas.settled = false → 10 ≤ s.elapsed →
               ∃ t, exec (.inputsSettled levels) s = .next t ∧ ProtectionSetUp s t)
           ∧ (s.readsDone = false → s.meas.settled = false → 10 ≤ s.elapsed →
               ∃ t, exec (.inputsSettled levels) s = .next t ∧ t.seq = s.seq))
    ∧ (∀ (b : BlockName) (s : State), s.power = .running → s.readsDone = false →
         (∀ n x, storedCopy s.store.stored n = some x → x.crc = crc16 x.content.bytes →
           x.content.name = n) →
         (∀ x, storedCopy s.store.stored b = some x → x.crc ≠ crc16 x.content.bytes) →
         ∃ t, exec .startUpReads s = .next t ∧ t.readsDone = true
           ∧ contentInForce t.cfg b = defaultContent b
           ∧ (.startUp, .settingsDefaulted b) ∈ t.mail.raised
           ∧ (b ∈ t.store.waiting ∨ ∃ c, t.store.writing = some c ∧ c.name = b)
           ∧ (b ∉ [.battery, .radio, .roster, .capture] →
               t.tags.holdPending = true ∨ ∃ e ∈ t.tags.table, e.kind = .systemHold ∧ e.removal = none))
    ∧ (∀ (fault : Bool) (c : BlockContent) (s : State), s.power = .running →
         (s.store.writing = none → exec (.settingsWriteComplete fault) s = .next s)
           ∧ (s.store.writing = some c →
               let ended :=
                 if fault then
                   { s with
                     cab := { s.cab with flags := { s.cab.flags with storeFault := true } },
                     mail := { s.mail with raised := s.mail.raised ++
                       [(.settingsStore, .storeFault (some c.name))] } }
                 else { s with store := { s.store with
                   stored := setStoredCopy s.store.stored c.name
                     (some { content := c, crc := crc16 c.bytes }) } }
               (s.store.waiting = [] →
                   exec (.settingsWriteComplete fault) s
                     = .next { ended with store := { ended.store with writing := none } })
                 ∧ ∀ b rest, s.store.waiting = b :: rest →
                     exec (.settingsWriteComplete fault) s
                       = .next { ended with store :=
                           { stored := setStoredCopy ended.store.stored b none,
                             writing := some (contentInForce s.cfg b), waiting := rest } }))

/-! ## Battery -/

/-- R108, R109: a test in WAITING whose gate holds, the power state RUN, the supply present, the bank full,
the charger in FLOAT and protection at rest, enters TEST_REST: the charger rests with its counts at 0, the
rest timer runs for 30 s, and the stager is told. In every other case nothing changes.

R107, R113: the auto-reloaded test timer brings a new period: WAITING, kind SCHEDULED, no retry used, the
gate judged; a waiting test is dropped first with NOT_RUN, a pending retry without a result; a running test
stands for the new period. The retry timer brings WAITING and SCHEDULED with the retries kept.

R109: when the rest timer expires V0 is the battery voltage average of the most recent delivery, the load
goes on, the load timer runs for 5 s, and the test is LOADED. The load is then connected where the power
state is RUN, every record is in REST or LOCKOUT and no departure is on its way, and it is never connected
outside RUN or with a record in another state.

That the load is connected only while every record is at rest as it stands is the model's reading (log
entry 60). -/
def Obligations.BatteryTestRuns : Prop :=
  (∀ s : State,
     let gate := s.bat.testState = .waiting ∧ s.bat.power = some .run ∧ s.meas.supply = true
       ∧ s.bat.bankFull = true ∧ s.bat.charger = .float ∧ s.bat.atRest = true
     (¬ gate → judgeGate s = s)
       ∧ (gate → judgeGate s = { s with
           bat := { s.bat with
             testState := .testRest, charger := .testRest, tail := 0, sag := 0,
             restTimer := some (s.elapsed + 30000) },
           mail := { s.mail with stageTest := s.mail.stageTest ++ [true] } }))
    ∧ (∀ (d : Nat) (s : State), s.power = .running →
         let waiting := fun (retries : Nat) (t : State) => { t with bat := { t.bat with
           testState := .waiting, testKind := some .scheduled, retryTimer := none, retries := retries } }
         let timed := { s with bat := { s.bat with
           testTimer := some (d + s.cfg.battery.testPeriod * 3600000) } }
         let notRun : TestRecord :=
           { verdict := .notRun, kind := s.bat.testKind.getD .scheduled, v0 := none, v1 := none, i1 := none,
             r := none, cause := none, phase := none, time := s.clock }
         (s.bat.testTimer = some d → s.elapsed < d → exec .batteryTestTimer s = .next s)
           ∧ (s.bat.testTimer = some d → d ≤ s.elapsed →
               (s.bat.testState = .idle ∨ s.bat.testState = .retryWait →
                   exec .batteryTestTimer s = .next (judgeGate (waiting 0 timed)))
                 ∧ (s.bat.testState = .waiting →
                     exec .batteryTestTimer s = .next (judgeGate (waiting 0 (withRecord .battery
                       (.batteryTest notRun)
                       { timed with bat := { timed.bat with lastTest := some notRun } }))))
                 ∧ (s.bat.testState.running = true →
                     exec .batteryTestTimer s = .next { timed with
                       bat := { timed.bat with testKind := some .scheduled, retries := 0 } }))
           ∧ (s.bat.testState = .retryWait → s.bat.retryTimer = some d →
               exec .retryTimerExpiry s =
                 .next (if d ≤ s.elapsed then judgeGate (waiting s.bat.retries s) else s)))
    ∧ (∀ (d : Nat) (s : State), s.power = .running → s.bat.testState = .testRest →
         s.bat.restTimer = some d →
         let resting := fun (p : Pole) =>
           (s.seq.recs.get p).state = .rest ∨ (s.seq.recs.get p).state = .lockout
         let loaded := { s with bat := { s.bat with
           testState := .loaded, restTimer := none, loadTimer := some (s.elapsed + 5000), loadOn := true,
           v0 := some s.meas.averages.vBatt } }
         exec .restTimerExpiry s = .next (if d ≤ s.elapsed then loaded else s)
           ∧ (s.bat.power = some .run → (∀ p, resting p) → (∀ n ∈ s.mail.rest, n.departure = false) →
               loadConnected loaded = true)
           ∧ (s.bat.power ≠ some .run ∨ (∃ p, ¬ resting p) →
               loadConnected s = false ∧ loadConnected loaded = false))

/-- R110, R111: when the load timer expires the verdict is INVALID for a discharge below 500 mA, else FAIL
below the minimum voltage under load, else WEAK above the resistance limit, else PASS, with the resistance
floor((V0 - V1) × 1,000 / I1), 0 when V1 is not below V0. The record replaces the last test, BATTERY_TEST
is raised, the load goes off, the charger goes to BULK or OFF by the supply, and the test is IDLE with its
retries kept.

R112, R113: a departure from rest aborts a test in TEST_REST or LOADED: the load goes off, an ABORTED
record with the cause and the phase replaces the last test, the charger goes to BULK or OFF, and a scheduled
test with fewer than 4 retries used waits 15 minutes for its retry, any other going to IDLE. In any other
test state it aborts nothing. A rest report sets the gate input, and the gate is judged (R108); the report
that comes with a departure is taken with it. -/
def Obligations.BatteryTestEnds : Prop :=
  (∀ (d : Nat) (v0 : Int) (s : State), s.power = .running → s.bat.testState = .loaded →
     s.bat.loadTimer = some d → d ≤ s.elapsed → s.bat.v0 = some v0 →
     let v1 := s.meas.averages.vBatt
     let i1 := -s.meas.averages.iBatt
     let r := if v0 ≤ v1 then 0 else ((v0 - v1) * 1000 / i1).toNat
     let verdict : Verdict :=
       if i1 < 50 then .invalid
       else if v1 < (s.cfg.battery.vMin : Int) then .fail
       else if s.cfg.battery.rLimit < r then .weak else .pass
     let record : TestRecord :=
       { verdict := verdict, kind := s.bat.testKind.getD .scheduled, v0 := some v0, v1 := some v1,
         i1 := some i1, r := if i1 < 50 then none else some r, cause := none, phase := none,
         time := s.clock }
     exec .loadTimerExpiry s = .next (withRecord .battery (.batteryTest record) { s with
       bat := { s.bat with
         testState := .idle, testKind := none, loadOn := false, restTimer := none, loadTimer := none,
         v0 := none, lastTest := some record, charger := if s.meas.supply then .bulk else .off,
         tail := 0, sag := 0, absorbTimer := none },
       mail := { s.mail with stageTest := s.mail.stageTest ++ [false] } }))
    ∧ (∀ (n : RestNotice) (rest : List RestNotice) (s : State), s.power = .running → s.mail.rest = n :: rest →
         let taken := { s with mail := { s.mail with rest := rest } }
         (∀ b, n.change = some b → n.departure = false ∨ (b = false ∧ s.bat.testState.running = false) →
             exec .batteryRestNotice s
               = .next (judgeGate { taken with bat := { s.bat with atRest := b } }))
           ∧ (n.change = none → n.departure = false ∨ s.bat.testState.running = false →
               exec .batteryRestNotice s = .next taken)
           ∧ (n.departure = true → s.bat.testState.running = true →
               let record : TestRecord :=
                 { verdict := .aborted, kind := s.bat.testKind.getD .scheduled,
                   v0 := if s.bat.testState = .loaded then s.bat.v0 else none, v1 := none, i1 := none,
                   r := none, cause := some .departure, phase := some s.bat.testState, time := s.clock }
               let retry := s.bat.testKind = some .scheduled ∧ s.bat.retries < 4
               exec .batteryRestNotice s = .next (withRecord .battery (.batteryTest record) { taken with
                 bat := { s.bat with
                   atRest := n.change.getD s.bat.atRest,
                   loadOn := false, restTimer := none, loadTimer := none, v0 := none,
                   lastTest := some record, charger := if s.meas.supply then .bulk else .off,
                   tail := 0, sag := 0, absorbTimer := none, testKind := none,
                   testState := if retry then .retryWait else .idle,
                   retries := if retry then s.bat.retries + 1 else s.bat.retries,
                   retryTimer := if retry then some (s.elapsed + 900000) else s.bat.retryTimer },
                 mail := { taken.mail with stageTest := s.mail.stageTest ++ [false] } })))

/-- R102, R108, R118: the absorb timer moves the charger from ABSORB to FLOAT, and the gate is judged; a
bank notice sets its gate input; the crew-visit window closes when its timer expires, which turns the
cabinet controller power off in SHED_HOST alone and hands the change.

R114: BATTERY_TEST_START is ACCEPTED in IDLE and RETRY_WAIT, where the test enters WAITING as REQUESTED
and the gate is judged, ACCEPTED in WAITING with nothing changed, and REFUSED_STATE while a test runs.
BATTERY_RESULT_GET carries the last record, the test state and kind, the retries, and the times left.
BLOCK_RESTART naming BATTERY_TEST drops a waiting test with NOT_RUN, makes the test state IDLE with no
retry, and starts the test timer afresh. That a time left which is a whole number of seconds is given as it
is needs no choice; the rounding of another is free (log entry 18).

When a due timer is taken is the model's (log entry 24). -/
def Obligations.BatteryTimersAndRequests : Prop :=
  (∀ (d : Nat) (b : Bool) (rest : List Bool) (s : State), s.power = .running →
     (s.bat.absorbTimer = some d → s.bat.charger = .absorb →
         exec .absorbTimerExpiry s = .next (if d ≤ s.elapsed then
           judgeGate { s with bat := { s.bat with charger := .float, absorbTimer := none, sag := 0 } }
           else s))
       ∧ (s.mail.bank = b :: rest →
           exec .bankFullNotice s = .next (judgeGate { s with
             mail := { s.mail with bank := rest }, bat := { s.bat with bankFull := b } }))
       ∧ (s.bat.window = some d → s.elapsed < d → exec .crewVisitWindowExpiry s = .next s)
       ∧ (s.bat.window = some d → d ≤ s.elapsed →
           let on := decide (s.bat.power ≠ some .shedHost) && decide (s.bat.power ≠ some .holdover)
           exec .crewVisitWindowExpiry s = .next { s with
             bat := { s.bat with window := none, cabinetSwitch := on },
             mail := { s.mail with cabinetPower := s.mail.cabinetPower ++
               (if on = s.bat.cabinetSwitch then [] else [on]) } }))
    ∧ (∀ (tag : Byte) (s : State), Ready s →
         let period := s.cfg.battery.testPeriod
         let fresh := if period = 0 then none else some (s.elapsed + period * 3600000)
         let idle := fun (t : State) => { t with bat := { t.bat with
           testState := .idle, testKind := none, retries := 0, retryTimer := none, testTimer := fresh } }
         let notRun : TestRecord :=
           { verdict := .notRun, kind := s.bat.testKind.getD .scheduled, v0 := none, v1 := none, i1 := none,
             r := none, cause := none, phase := none, time := s.clock }
         (s.bat.testState = .idle ∨ s.bat.testState = .retryWait →
             exec (.batteryTestStart tag) s = .next (replied 20#8 tag .accepted .nothing
               (judgeGate { s with bat := { s.bat with
                 testState := .waiting, testKind := some .requested, retryTimer := none } })))
           ∧ (s.bat.testState = .waiting →
               exec (.batteryTestStart tag) s = .next (replied 20#8 tag .accepted .nothing s))
           ∧ (s.bat.testState.running = true →
               exec (.batteryTestStart tag) s = .next (replied 20#8 tag .refusedState .nothing s))
           ∧ (∃ left retry, exec (.batteryResultGet tag) s = .next (replied 21#8 tag .ok
                 (.battery s.bat.lastTest s.bat.testState s.bat.testKind s.bat.retries left retry) s)
               ∧ (left.isSome = s.bat.testTimer.isSome) ∧ (retry.isSome = s.bat.retryTimer.isSome)
               ∧ (∀ d n, s.bat.testTimer = some d → left = some n →
                   (d - s.elapsed) / 1000 ≤ n ∧ n * 1000 ≤ d - s.elapsed + 999)
               ∧ ∀ d n, s.bat.retryTimer = some d → retry = some n →
                   (d - s.elapsed) / 1000 ≤ n ∧ n * 1000 ≤ d - s.elapsed + 999)
           ∧ (s.bat.testState = .idle ∨ s.bat.testState = .retryWait →
               exec (.blockRestartBatteryTest tag) s = .next (replied 26#8 tag .ok .nothing (idle s)))
           ∧ (s.bat.testState = .waiting →
               exec (.blockRestartBatteryTest tag) s = .next (replied 26#8 tag .ok .nothing
                 (idle (withRecord .battery (.batteryTest notRun)
                   { s with bat := { s.bat with lastTest := some notRun } }))))
           ∧ (s.bat.testState.running = true →
               let record : TestRecord :=
                 { verdict := .aborted, kind := s.bat.testKind.getD .scheduled,
                   v0 := if s.bat.testState = .loaded then s.bat.v0 else none, v1 := none, i1 := none,
                   r := none, cause := some .restart, phase := some s.bat.testState, time := s.clock }
               ∃ t, exec (.blockRestartBatteryTest tag) s = .next (replied 26#8 tag .ok .nothing
                   (withRecord .battery (.batteryTest record) t))
                 ∧ t.bat.testState = .idle ∧ t.bat.loadOn = false ∧ t.bat.lastTest = some record
                 ∧ t.bat.charger = (if s.meas.supply then .bulk else .off) ∧ t.bat.retries = 0
                 ∧ t.bat.testTimer = fresh ∧ t = { s with bat := t.bat, mail := t.mail }))

/-- R115: at a delivery after the first the power state falls one step as the fall count reaches 10 below the
fall level, or rises one as the rise count reaches 60 above the rise level; a step clears both counts and
raises one POWER_STATE. Otherwise the counts go on, each at 0 when its level is not passed.

R61, R76, R116 to R118: at the first delivery, and at one that steps the power state, HOLDOVER holds the
bank charger and refuses every waiting close in queue order, HELD is left by the bank's level, a change of
"bank full" is handed, the arbiter judges, permission of the modem goes to the radio as RUN is left or entered,
HOLDOVER closes the crew-visit window, the cabinet switch follows with its notice, and one POWER_STATE is
raised. Any other delivery does none of this.

R99 to R104: a delivery takes a change of the supply first, then moves the charger once: to FAULT above
55 °C or 31.00 V, with CHARGER_FAULT; from FAULT by the supply below 50 °C and 30.00 V; from BULK to ABSORB at
the absorb target, starting the absorb timer; from ABSORB to FLOAT at the sixtieth tail count, and from FLOAT
to BULK at the sixtieth sag count, a count rising by one below its level and else 0. The targets are those of
this delivery's temperature, 25 °C with the sensor in fault, and the drive follows them. A waiting test whose
gate opens begins (R108), aborted at once where RUN is left (R112). FLOAT has its supply by an invariant.

R104, R112, R113: a delivery during a running test leaves it as it is, or aborts it, with the cause
CHARGER_FAULT on the charger's move to FAULT, POWER_STATE as it takes the power state from RUN: the load goes
off, an ABORTED record is raised, and a scheduled test with fewer than 4 retries used waits for its retry.

The order of the judgements of one delivery, and one transition at most, are the model's readings (log
entry 19); the order of several refusals, and the window in POWER_STATE at HOLDOVER, its choices (log
entries 78 and 89). -/
def Obligations.DeliveryMovesPowerAndCharger : Prop :=
  (∀ (p : PowerState) (s : State), s.power = .running → s.meas.samples = 10 → s.bat.power = some p →
     let v := average s.meas.windows.vBatt
     let low := (p = .run ∧ v < 2300) ∨ (p = .shedRadio ∧ v < 2240) ∨ (p = .shedHost ∧ v < 2160)
     let high := (p = .shedRadio ∧ 2440 < v) ∨ (p = .shedHost ∧ 2480 < v) ∨ (p = .holdover ∧ 2500 < v)
     ∃ t, exec .averageDelivery s = .next t
       ∧ (low → 9 ≤ s.bat.fall → t.bat.power = some p.lower ∧ t.bat.fall = 0 ∧ t.bat.rise = 0
           ∧ ∃ window, (.battery, .powerState (some p) p.lower v window) ∈ t.mail.raised)
       ∧ (low → s.bat.fall < 9 → t.bat.power = some p ∧ t.bat.fall = s.bat.fall + 1 ∧ t.bat.rise = 0)
       ∧ (¬ low → high → 59 ≤ s.bat.rise →
           t.bat.power = some p.higher ∧ t.bat.fall = 0 ∧ t.bat.rise = 0
             ∧ ∃ window, (.battery, .powerState (some p) p.higher v window) ∈ t.mail.raised)
       ∧ (¬ low → high → s.bat.rise < 59 →
           t.bat.power = some p ∧ t.bat.fall = 0 ∧ t.bat.rise = s.bat.rise + 1)
       ∧ (¬ low → ¬ high → t.bat.power = some p ∧ t.bat.fall = 0 ∧ t.bat.rise = 0))
    ∧ (∀ s : State, s.power = .running → s.meas.samples = 10 →
         let v := average s.meas.windows.vBatt
         let low := fun (p : PowerState) =>
           (p = .run ∧ v < 2300) ∨ (p = .shedRadio ∧ v < 2240) ∨ (p = .shedHost ∧ v < 2160)
         let high := fun (p : PowerState) =>
           (p = .shedRadio ∧ 2440 < v) ∨ (p = .shedHost ∧ 2480 < v) ∨ (p = .holdover ∧ 2500 < v)
         let first : PowerState := if 2300 ≤ v then .run else if 2240 ≤ v then .shedRadio
           else if 2160 ≤ v then .shedHost else .holdover
         let becomes := fun (q : PowerState) => (s.bat.power = none ∧ q = first) ∨ ∃ p, s.bat.power = some p
           ∧ ((low p ∧ 9 ≤ s.bat.fall ∧ q = p.lower) ∨ (¬ low p ∧ high p ∧ 59 ≤ s.bat.rise ∧ q = p.higher))
         ∃ t new, exec .averageDelivery s = .next t ∧ t.mail.raised = s.mail.raised ++ new
           ∧ t.mail = { s.mail with
               strokes := t.mail.strokes, bank := t.mail.bank, permission := t.mail.permission,
               cabinetPower := t.mail.cabinetPower, raised := t.mail.raised, stageTest := t.mail.stageTest }
           ∧ (∀ q, becomes q →
               let window := if q = .holdover then none else s.bat.window
               let on := decide (q = .run ∨ q = .shedRadio ∨ (q = .shedHost ∧ window.isSome = true))
               let charger : BankCharger := if q = .holdover then .held
                 else if s.en.charger = .held then (if s.en.bank < 9600 then .charging else .full)
                 else s.en.charger
               let full := decide (charger = .full)
               let refused := fun (r : StrokeRequest) => decide (q = .holdover) && decide (r.kind = .close)
               let told := judgeArbiter { s with
                 meas := t.meas, bat := { s.bat with power := some q },
                 en := { s.en with
                   charger := charger, queue := s.en.queue.filter fun r => !refused r,
                   bankFullSaid :=
                     if q = .holdover ∨ s.en.charger = .held then full else s.en.bankFullSaid },
                 mail := { s.mail with strokes := s.mail.strokes ++
                   (s.en.queue.filter refused).map fun r => .refusal r.poles .holdover } }
               t.bat.power = some q ∧ t.en = told.en ∧ t.mail.strokes = told.mail.strokes
                 ∧ t.mail.bank = s.mail.bank ++
                   (if decide (s.en.charger = .full) = full then [] else [full])
                 ∧ t.mail.permission = s.mail.permission ++ (if s.bat.power = some .run then [false]
                     else if s.bat.power ≠ none ∧ q = .run then [true] else [])
                 ∧ t.bat.window = window ∧ t.bat.cabinetSwitch = on
                 ∧ t.mail.cabinetPower = s.mail.cabinetPower ++
                   (if on = s.bat.cabinetSwitch then [] else [on])
                 ∧ new.filter isPowerState
                   = [(.battery, .powerState s.bat.power q v window.isSome)])
           ∧ ((∀ q, ¬ becomes q) →
               t.en = s.en ∧ t.mail.strokes = s.mail.strokes ∧ t.mail.bank = s.mail.bank
                 ∧ t.mail.permission = s.mail.permission ∧ t.mail.cabinetPower = s.mail.cabinetPower
                 ∧ t.bat.window = s.bat.window ∧ t.bat.cabinetSwitch = s.bat.cabinetSwitch
                 ∧ new.filter isPowerState = []))
    ∧ (∀ s : State, s.power = .running → s.meas.samples = 10 → s.bat.testState.running = false →
         (s.bat.charger = .float → s.meas.supply = true) →
         let present := decide (90 ≤ average s.meas.windows.vSupply)
         let v := average s.meas.windows.vBatt
         let i := average s.meas.windows.iBatt
         let temp : Int := if s.meas.tempBad then 25 else average s.meas.windows.temp
         let held : Int := max (-20) (min 50 temp)
         let target := fun (v25 : Nat) =>
           ((max 25200 (min 29800 ((v25 : Int) * 10 - (s.cfg.battery.k : Int) * (held - 25))) + 5) / 10 : Int)
         let absorb := target s.cfg.battery.absorb25
         let float := target s.cfg.battery.float25
         let hot := 55 < temp ∨ 3100 < v
         let tail := if i < (s.cfg.battery.tail : Int) then s.bat.tail + 1 else 0
         let sag := if v < float - 100 then s.bat.sag + 1 else 0
         let supplied : ChargerState :=
           if present = s.meas.supply then s.bat.charger
           else if present = true ∧ s.bat.charger = .off then .bulk
           else if present = false ∧ s.bat.charger ∈ [.bulk, .absorb, .float] then .off
           else s.bat.charger
         let moved : ChargerState :=
           if supplied = .fault then
             if temp < 50 ∧ v < 3000 then (if present then .bulk else .off) else .fault
           else if hot then .fault
           else match supplied with
             | .bulk => if absorb ≤ v then .absorb else .bulk
             | .absorb => if 60 ≤ tail then .float else .absorb
             | .float => if 60 ≤ sag then .bulk else .float
             | other => other
         let ready := s.bat.testState = .waiting ∧ present = true ∧ s.bat.bankFull = true
           ∧ s.bat.atRest = true ∧ moved = .float
         let record : TestRecord :=
           { verdict := .aborted, kind := s.bat.testKind.getD .scheduled, v0 := none, v1 := none, i1 := none,
             r := none, cause := some .powerState, phase := some .testRest, time := s.clock }
         ∃ t, exec .averageDelivery s = .next t
           ∧ t.bat.targets = some { absorb := absorb, float := float }
           ∧ chargerDrive t = (match t.bat.charger with
               | .off => ChargerDrive.off
               | .bulk => .currentHeld s.cfg.battery.bulk absorb
               | .absorb => .voltageHeld absorb s.cfg.battery.bulk
               | .float => .voltageHeld float s.cfg.battery.bulk
               | .testRest => .off
               | .fault => .off)
           ∧ (supplied ≠ .fault → hot →
               ∃ c, (.battery, .chargerFault supplied v c (decide (55 < temp)) (decide (3100 < v)))
                   ∈ t.mail.raised)
           ∧ (ready → t.bat.power = some .run →
               t.bat.charger = .testRest ∧ t.bat.testState = .testRest ∧ t.bat.tail = 0 ∧ t.bat.sag = 0
                 ∧ t.bat.restTimer = some (s.elapsed + 30000)
                 ∧ t.mail.stageTest = s.mail.stageTest ++ [true])
           ∧ (ready → s.bat.power = some .run → t.bat.power ≠ some .run →
               t.bat.charger = .bulk ∧ t.bat.tail = 0 ∧ t.bat.sag = 0 ∧ t.bat.absorbTimer = none
                 ∧ t.bat.restTimer = none ∧ t.bat.lastTest = some record
                 ∧ (.battery, .batteryTest record) ∈ t.mail.raised
                 ∧ t.bat.testState =
                     (if s.bat.testKind = some .scheduled ∧ s.bat.retries < 4 then .retryWait else .idle)
                 ∧ t.mail.stageTest = s.mail.stageTest ++ [true, false])
           ∧ (¬ ready ∨ (s.bat.power ≠ some .run ∧ t.bat.power ≠ some .run) →
               t.bat.charger = moved ∧ t.bat.testState = s.bat.testState
                 ∧ t.bat.lastTest = s.bat.lastTest ∧ t.mail.stageTest = s.mail.stageTest
                 ∧ (supplied = .off → s.bat.charger ≠ .off → ¬ hot →
                     t.bat.tail = 0 ∧ t.bat.sag = 0 ∧ t.bat.absorbTimer = none)
                 ∧ (supplied = .bulk → s.bat.charger = .off → t.bat.tail = 0 ∧ t.bat.sag = 0)
                 ∧ ((supplied = .fault ↔ moved ≠ .fault) →
                     t.bat.tail = 0 ∧ t.bat.sag = 0 ∧ t.bat.absorbTimer = none)
                 ∧ (supplied = .bulk → moved = .absorb →
                     t.bat.tail = 0 ∧ t.bat.absorbTimer = some (s.elapsed + s.cfg.battery.absorbMin * 60000))
                 ∧ (supplied = .absorb → ¬ hot → t.bat.tail = tail)
                 ∧ (supplied = .absorb → moved = .absorb → t.bat.absorbTimer = s.bat.absorbTimer)
                 ∧ (supplied = .absorb → moved = .float → t.bat.sag = 0 ∧ t.bat.absorbTimer = none)
                 ∧ (supplied = .float → moved = .float → t.bat.sag = sag)
                 ∧ (supplied = .float → moved = .bulk → t.bat.tail = 0 ∧ t.bat.sag = 0)))
    ∧ (∀ (p : PowerState) (s : State), s.power = .running → s.meas.samples = 10 → s.bat.power = some p →
         s.bat.testState.running = true → s.bat.charger = .testRest →
         let v := average s.meas.windows.vBatt
         let temp : Int := if s.meas.tempBad then 25 else average s.meas.windows.temp
         let hot := 55 < temp ∨ 3100 < v
         let falls := p = .run ∧ v < 2300 ∧ 9 ≤ s.bat.fall
         let record := fun (cause : AbortCause) => (
           { verdict := .aborted, kind := s.bat.testKind.getD .scheduled,
             v0 := if s.bat.testState = .loaded then s.bat.v0 else none, v1 := none, i1 := none, r := none,
             cause := some cause, phase := some s.bat.testState, time := s.clock } : TestRecord)
         ∃ t, exec .averageDelivery s = .next t
           ∧ (¬ hot → ¬ falls →
               t.bat.testState = s.bat.testState ∧ t.bat.charger = .testRest ∧ t.bat.loadOn = s.bat.loadOn
                 ∧ t.bat.v0 = s.bat.v0 ∧ t.bat.restTimer = s.bat.restTimer
                 ∧ t.bat.loadTimer = s.bat.loadTimer ∧ t.bat.lastTest = s.bat.lastTest)
           ∧ (hot → t.bat.charger = .fault ∧ t.bat.lastTest = some (record .chargerFault))
           ∧ (¬ hot → falls → t.bat.lastTest = some (record .powerState)
               ∧ t.bat.charger = (if 90 ≤ average s.meas.windows.vSupply then .bulk else .off))
           ∧ (hot ∨ falls → t.bat.loadOn = false ∧ t.bat.restTimer = none ∧ t.bat.loadTimer = none
               ∧ t.bat.testState =
                   (if s.bat.testKind = some .scheduled ∧ s.bat.retries < 4 then .retryWait else .idle)
               ∧ ∃ r, t.bat.lastTest = some r ∧ (.battery, .batteryTest r) ∈ t.mail.raised))

/-! ## Event queue and radio -/

/-- R133, section 12.4: the class of a record follows from its kind: the kinds 0 to 9 are URGENT, POWER_STATE
when its new state is HOLDOVER, BATTERY_TEST when its verdict is WEAK or FAIL; kind 24 is STATUS, every other
record ROUTINE. A record is a header of 9 bytes and the body of its kind.

R139: the record given up is the oldest STATUS record, otherwise the oldest ROUTINE one, otherwise the
oldest URGENT one whose radio part is done, otherwise the oldest URGENT one; every other record stays.

R134, R135, R139 to R141, R143: the queue takes the oldest record of a source. A full queue gives one up.
The record is numbered, stamped and classed, its radio state is set by the kind filter, and it joins the
tail; EVENT_PENDING is set, the send order is judged for a record the radio is to send, and QUEUE_HIGH is set
from 48 records on when the arming is ARMED. The next event number passes over the numbers held. A waiting
fetch is answered with it and marks it FETCHED: it leaves the queue at once where it is not for the radio, and
a queue that so falls below 32 arms again; a record for the radio stays, marked.

That records of the start-up procedure go first is the model's reading of R127 (log entry 42); that the
number given up at the same arrival is free again is its choice (log entry 80). -/
def Obligations.RecordsAreTakenIn : Prop :=
  (∀ (r : EventRecord) (body : EventBody),
     (body.kind = match body with
         | .trip .. => 0
         | .lockout .. => 1
         | .poleFail .. => 2
         | .energyFail .. => 3
         | .tagPlaced .. => 4
         | .tagRemoved .. => 5
         | .closeBlocked .. => 6
         | .retainedLost .. => 7
         | .storeFault .. => 8
         | .chargerFault .. => 9
         | .powerState .. => 10
         | .batteryTest .. => 11
         | .reclose .. => 12
         | .sequenceReset .. => 13
         | .coordinationStep .. => 14
         | .closedByCommand .. => 15
         | .settingsApplied .. => 16
         | .settingsDefaulted .. => 17
         | .counterAlarm .. => 18
         | .sensorFault .. => 19
         | .poleUnknown .. => 20
         | .opticalOverrun .. => 21
         | .timeSet .. => 22
         | .radioFault .. => 23
         | .status .. => 24)
       ∧ (body.cls = .urgent ↔ body.kind < 10 ∨ (∃ old v w, body = .powerState old .holdover v w)
           ∨ ∃ r, body = .batteryTest r ∧ (r.verdict = .weak ∨ r.verdict = .fail))
       ∧ (body.cls = .status ↔ body.kind = 24)
       ∧ (r.body = body → ∃ n, r.wireLength = 9 + n ∧
           ([22, 5, 8, 8, 11, 9, 3, 1, 2, 5, 5, 18, 2, 2, 2, 2, 2, 2, 9, 2, 2, 3, 7, 5, 17] : List Nat)[body.kind]?
             = some n))
    ∧ (∀ l : List EventRecord, l ≠ [] →
         ∃ before r after, l = before ++ r :: after ∧ evict l = before ++ after
           ∧ ((∃ x ∈ l, x.cls = .status) → r.cls = .status ∧ ∀ x ∈ before, x.cls ≠ .status)
           ∧ ((∀ x ∈ l, x.cls ≠ .status) → (∃ x ∈ l, x.cls = .routine) →
               r.cls = .routine ∧ ∀ x ∈ before, x.cls ≠ .routine)
           ∧ ((∀ x ∈ l, x.cls = .urgent) → (∃ x ∈ l, x.radio ∈ [.notForRadio, .acked, .dropped]) →
               r.radio ∈ [.notForRadio, .acked, .dropped]
                 ∧ ∀ x ∈ before, x.radio ∉ [RadioMark.notForRadio, .acked, .dropped])
           ∧ ((∀ x ∈ l, x.cls = .urgent ∧ x.radio ∉ [RadioMark.notForRadio, .acked, .dropped]) →
               before = []))
    ∧ (∀ (source : RecordSource) (body : EventBody) (before after : List (RecordSource × EventBody))
         (s : State), s.power = .running → s.readsDone = true →
         s.mail.raised = before ++ (source, body) :: after → (∀ x ∈ before, x.1 ≠ source) →
         (source = .startUp ∨ ∀ x ∈ s.mail.raised, x.1 ≠ .startUp) → body.cls ≠ .status →
         let kept := if 64 ≤ s.eq.records.length then evict s.eq.records else s.eq.records
         let r : EventRecord :=
           { number := s.eq.next, cls := body.cls, body := body, stamp := s.clock,
             radio := if s.cfg.radio.filter.testBit body.kind then .pending else .notForRadio,
             attempts := 0, nextTry := s.elapsed, inSend := false, cabinet := .pending, renewed := false }
         let plain := fun (x : EventRecord) => { x with inSend := false }
         let unfinished := fun (x : EventRecord) =>
           decide (x.radio ∉ [RadioMark.notForRadio, .acked, .dropped]) || decide (x.cabinet = .pending)
         ∃ t, exec (.recordArrival source) s = .next t
           ∧ t.mail.raised = before ++ after ∧ t.cab.flags.eventPending = true
           ∧ (s.eq.armed = true → 48 ≤ kept.length + 1 → t.cab.flags.queueHigh = true)
           ∧ (s.eq.armed = false ∨ kept.length + 1 < 48 → t.cab.flags.queueHigh = s.cab.flags.queueHigh)
           ∧ ((s.eq.next + 1) % 65536 ∉ kept.map EventRecord.number →
               t.eq.next = (s.eq.next + 1) % 65536
                 ∧ ((s.eq.next + 1) % 64 = 0 → t.eq.base = ((s.eq.next + 1) % 65536 + 64) % 65536
                     ∧ t.ret.writing.isSome = true)
                 ∧ ((s.eq.next + 1) % 64 ≠ 0 → t.eq.base = s.eq.base ∧ t.ret = s.ret))
           ∧ (s.eq.records.length ≤ 64 → s.eq.next < 65536 → ∃ k,
               t.eq.next = (s.eq.next + 1 + k) % 65536 ∧ t.eq.next ∉ kept.map EventRecord.number
                 ∧ ∀ j < k, (s.eq.next + 1 + j) % 65536 ∈ kept.map EventRecord.number)
           ∧ (r.radio = .notForRadio → t.rad = s.rad)
           ∧ (r.radio = .pending → ∃ u : State,
               u = { s with
                 eq := u.eq, ret := u.ret, tags := u.tags, meas := u.meas, en := u.en, mail := u.mail,
                 cab := u.cab }
                 ∧ u.eq.records = kept ++ [r] ∧ u.eq.next = t.eq.next
                 ∧ u.tags.table.length = s.tags.table.length ∧ u.tags.holdPending = s.tags.holdPending
                 ∧ t.rad = (judgeSend u).rad
                 ∧ (s.eq.fetch = none → t.eq.records = (judgeSend u).eq.records)
                 ∧ ∀ f, s.eq.fetch = some f → t.eq.records = ((judgeSend u).eq.records.map fun x =>
                     if x.number = s.eq.next then { x with cabinet := .fetched } else x).filter unfinished)
           ∧ (s.eq.fetch = none →
               t.eq.records.map plain = (kept ++ [r]).map plain ∧ t.cab.replies = s.cab.replies
                 ∧ (48 ≤ kept.length + 1 → t.eq.armed = false)
                 ∧ (kept.length + 1 < 48 → t.eq.armed = s.eq.armed))
           ∧ (∀ f o, s.eq.fetch = some f → s.cab.owed = some o → o.request = f.request →
               t.eq.fetch = none ∧ t.cab.owed = none
                 ∧ t.cab.replies = s.cab.replies ++
                   [{ kind := o.kind, tag := o.tag, code := .ok, content := .event 0 r }])
           ∧ ∀ f, s.eq.fetch = some f →
               let fetched := fun (l : List EventRecord) => (l.map fun x =>
                 if x.number = s.eq.next then { x with cabinet := .fetched } else x).filter unfinished
               t.eq.fetch = none
                 ∧ (r.radio = .notForRadio → t.eq.records = fetched (kept ++ [r]))
                 ∧ (r.radio = .notForRadio → s.eq.next ∉ kept.map EventRecord.number →
                     kept.filter unfinished = kept → t.eq.records = kept)
                 ∧ (r.radio = .pending → s.eq.next ∉ kept.map EventRecord.number →
                     kept.filter unfinished = kept →
                     t.eq.records.map plain = (kept ++ [{ r with cabinet := .fetched }]).map plain)
                 ∧ (t.eq.armed = true ↔
                     (t.eq.records.length < kept.length + 1 ∧ t.eq.records.length < 32)
                       ∨ (s.eq.armed = true ∧ kept.length + 1 < 48)))

/-- R137: a STATUS record takes the place of the one held: a record not in send gets the new timestamp and
body and the send order is judged, one in send gets them and the renewed mark. With none held it is taken
in below 64 records; a full queue without a ROUTINE record discards it, and one with a ROUTINE record gives
up the oldest. Before the reads of the start, and while a record of the start-up procedure waits, it waits
to be taken as other records are (R127, R144).

R149, R153, R157: the refill adds the credit refill, held at the cap, and the send order is judged; the
status timer hands a STATUS record to the queue; both are auto-reloaded. When an acknowledgement wait runs
out, a ROUTINE record of three attempts is DROPPED and any other is PENDING again; a record that does not
await an acknowledgement, or whose next try lies ahead, is left alone.

That the status content is computed before the record joins the queue, that it waits behind the records
of the start-up, and when a due timer is taken, are the model's (log entries 24, 42 and 47). -/
def Obligations.StatusRecordsAndRadioTimers : Prop :=
  (∀ s : State, s.power = .running →
     let body := EventBody.status (statusContent s)
     let renew := fun (x : EventRecord) =>
       if x.cls = .status then
         { x with body := body, stamp := s.clock, renewed := x.renewed || x.inSend } else x
     let waits := s.readsDone = false ∨ ∃ x ∈ s.mail.raised, x.1 = .startUp
     (waits → takeStatus s = withRecord .radio body s)
       ∧ (¬ waits → ∀ before old after, s.mail.raised = before ++ (.radio, .status old) :: after →
           (∀ x ∈ before, x.1 ≠ .radio) → exec (.recordArrival .radio) s
             = .next (takeStatus { s with mail := { s.mail with raised := before ++ after } }))
       ∧ (¬ waits → ∀ before h after, s.eq.records = before ++ h :: after →
           h.cls = .status → (∀ x ∈ before ++ after, x.cls ≠ .status) →
           let u := { s with eq := { s.eq with records := before ++ renew h :: after } }
           takeStatus s = if h.inSend then u else judgeSend u)
       ∧ (¬ waits → (∀ x ∈ s.eq.records, x.cls ≠ .status) →
           (64 ≤ s.eq.records.length → (∀ x ∈ s.eq.records, x.cls ≠ .routine) → takeStatus s = s)
             ∧ (s.eq.records.length < 64 ∨ (∃ x ∈ s.eq.records, x.cls = .routine) →
                 ∃ r : EventRecord, r.number = s.eq.next ∧ r.cls = .status ∧ r.body = body ∧ r.stamp = s.clock
                   ∧ r.radio = .pending ∧ r.cabinet = .notForCabinet
                   ∧ (takeStatus s).eq.records.map (fun x => { x with inSend := false })
                     = ((if 64 ≤ s.eq.records.length then evict s.eq.records else s.eq.records)
                         ++ [r]).map (fun x => { x with inSend := false })
                   ∧ (takeStatus s).cab.flags.eventPending = s.cab.flags.eventPending)))
    ∧ (∀ (d : Nat) (number : Half) (s : State), s.power = .running →
         (s.rad.refillTimer = some d → exec .refillTimer s = .next (if d ≤ s.elapsed then
             judgeSend { s with rad := { s.rad with
               credit := min s.cfg.radio.cap (s.rad.credit + s.cfg.radio.refill),
               refillTimer := some (d + 1000) } }
             else s))
           ∧ (s.rad.statusTimer = some d → exec .statusTimer s = .next (if d ≤ s.elapsed then
               takeStatus { s with rad := { s.rad with
                 statusTimer := some (d + s.cfg.radio.statusPeriod * 1000) } }
               else s))
           ∧ ∀ before r after, s.eq.records = before ++ r :: after → r.number = number.toNat →
               (∀ x ∈ before ++ after, x.number ≠ number.toNat) →
               (r.radio ≠ .awaitingAck ∨ s.elapsed < r.nextTry →
                   exec (.ackWaitExpiry number) s = .next s)
                 ∧ (r.radio = .awaitingAck → r.nextTry ≤ s.elapsed →
                     ∃ u, exec (.ackWaitExpiry number) s = .next (judgeSend u)
                       ∧ u = { s with eq := { s.eq with records := u.eq.records, armed := u.eq.armed } }
                       ∧ (r.cls ≠ .routine ∨ r.attempts < 3 →
                           { r with radio := .pending } ∈ u.eq.records)
                       ∧ (r.cls = .routine → 3 ≤ r.attempts →
                           (r.cabinet = .pending → { r with radio := .dropped } ∈ u.eq.records)
                             ∧ (r.cabinet ≠ .pending → ∀ x ∈ u.eq.records, x.number ≠ number.toNat))))

/-- R142, R143: a fetch is given the oldest record the cabinet has not had, with the number still waiting; the
record is marked FETCHED, and leaves the queue when its radio part is done (R138). With none waiting, a
fetch with wait NO is answered EMPTY and one with wait YES waits up to 2,000 ms; another wait flag is
BAD_VALUE. The expiry of the wait is answered EMPTY.

A BAD_VALUE without a field index is the model's reading (log entry 9). -/
def Obligations.FetchGivesTheOldestRecord : Prop :=
  ∀ (tag wait : Byte) (s : State),
    (Ready s → 2 ≤ wait.toNat →
        exec (.eventFetch tag wait) s = .next (replied 3#8 tag .badValue (.badField none) s))
      ∧ (Ready s → wait.toNat < 2 → (s.eq.records.map EventRecord.number).Nodup →
          ∀ before r after, s.eq.records = before ++ r :: after → r.cabinet = .pending →
          (∀ x ∈ before, x.cabinet ≠ .pending) →
          let done := fun (x : EventRecord) =>
            decide (x.radio ∈ [.notForRadio, .acked, .dropped]) && decide (x.cabinet ≠ .pending)
          let kept := (before ++ { r with cabinet := .fetched } :: after).filter fun x => !done x
          let u := replied 3#8 tag .ok
            (.event ((before ++ after).filter fun x => decide (x.cabinet = .pending)).length r) s
          exec (.eventFetch tag wait) s = .next { u with eq := { s.eq with
            records := kept,
            armed := s.eq.armed
              || (decide (kept.length < s.eq.records.length) && decide (kept.length < 32)) } })
      ∧ (Ready s → (∀ x ∈ s.eq.records, x.cabinet ≠ .pending) →
          (wait = 0#8 →
              exec (.eventFetch tag wait) s = .next (replied 3#8 tag .empty .nothing s))
            ∧ (wait = 1#8 →
                exec (.eventFetch tag wait) s = .next { owing 3#8 tag s with eq := { s.eq with
                  fetch := some
                    { request := s.cab.nextRequest, deadline := s.elapsed + 2000 } } }))
      ∧ ∀ f o, s.power = .running → s.eq.fetch = some f → s.cab.owed = some o →
          o.request = f.request →
          exec .fetchWaitExpiry s = .next (if f.deadline ≤ s.elapsed then
            { s with
              eq := { s.eq with fetch := none },
              cab := { s.cab with owed := none, replies := s.cab.replies ++
                [{ kind := o.kind, tag := o.tag, code := .empty, content := .nothing }] } }
            else s)

/-- R149 to R151: a packet costs the key overhead and its airtime, rounded up. A send starts in IDLE alone and
only when the credit covers its cost, which is taken from it. A result that waits in the reply slot is the
whole choice, sent when it is paid for and marked in send. Otherwise the candidates are the PENDING records,
URGENT and ROUTINE ones once their next try has come, then STATUS, oldest first in each class; the longest
run of them from the front that keeps to four records, 200 bytes and the credit goes, each marked in send.

That the TAG_QUERY entries alone follow the eight bytes is the model's (log entry 69). -/
def Obligations.SendsArePaidFor : Prop :=
  (∀ (r : RadioSettings) (n : Nat), 0 < r.bitRate →
      r.keyOverhead ≤ packetCost r n
        ∧ (16 + n) * 8000 ≤ (packetCost r n - r.keyOverhead) * r.bitRate
        ∧ (packetCost r n - r.keyOverhead - 1) * r.bitRate < (16 + n) * 8000)
    ∧ ∀ s : State,
        let t := judgeSend s
        let ready := fun (c : EventClass) => s.eq.records.filter fun r =>
          decide (r.cls = c) && decide (r.radio = .pending)
            && (decide (c = .status) || decide (r.nextTry ≤ s.elapsed))
        let choice := ready .urgent ++ ready .routine ++ ready .status
        let bytes := fun (l : List EventRecord) => (l.map EventRecord.wireLength).sum
        let free := s.rad.slot = none ∨ ∃ slot, s.rad.slot = some slot ∧ slot.inSend = true
        let fits := fun (n : Nat) => n ≤ choice.length ∧ n ≤ 4 ∧ bytes (choice.take n) ≤ 200
          ∧ packetCost s.cfg.radio (bytes (choice.take n)) ≤ s.rad.credit
        let sends := fun (req : TxRequest) (cost : Nat) => cost ≤ s.rad.credit
          ∧ t.rad.credit = s.rad.credit - cost ∧ t.rad.state = .transmitting
          ∧ t.rad.sent = s.rad.sent ++ [req] ∧ t.rad.modemTimer = some (s.elapsed + 5000)
          ∧ req.number = s.rad.sendNumber ∧ req.destination = s.cfg.radio.master
          ∧ req.source = s.cfg.radio.own ∧ req.stamp = s.clock
          ∧ t.rad.sendNumber = (s.rad.sendNumber + 1) % 256
          ∧ t.mail.stageRadio = s.mail.stageRadio ++ [true]
        (s.rad.state ≠ .idle → t = s)
          ∧ (∀ slot, s.rad.state = .idle → s.rad.slot = some slot → slot.inSend = false →
              let cost := packetCost s.cfg.radio
                (8 + 12 * (match slot.tags with | some tags => tags.2.length | none => 0))
              (s.rad.credit < cost → t = s)
                ∧ (cost ≤ s.rad.credit → ∃ req next occupancy tags hold, sends req cost
                    ∧ req.content = .result slot next occupancy tags hold
                    ∧ (∀ l, slot.tags = some l → tags = l.2.length ∧ hold = l.1)
                    ∧ t.eq = s.eq ∧ t.rad.slot = some { slot with inSend := true }
                    ∧ t.rad.send = some { number := s.rad.sendNumber, records := none }))
          ∧ (s.rad.state = .idle → free → (∀ n, 0 < n → ¬ fits n) → t = s)
          ∧ (∀ n, s.rad.state = .idle → free → 0 < n → fits n → (∀ m, fits m → m ≤ n) →
              ∃ req, sends req (packetCost s.cfg.radio (bytes (choice.take n)))
                ∧ req.content = .reports (choice.take n) ∧ t.rad.slot = s.rad.slot
                ∧ t.rad.send = some { number := s.rad.sendNumber,
                                      records := some ((choice.take n).map EventRecord.number) }
                ∧ t.eq.records = s.eq.records.map fun r =>
                    if r.number ∈ (choice.take n).map EventRecord.number then { r with inSend := true }
                    else r)

/-- R146, R152: the matching TX_RESULT, and the modem timeout as a FAIL, end the send in flight. On DONE a
packed URGENT or ROUTINE record awaits its acknowledgement with one more attempt, its next try after the
acknowledgement wait of R153; on FAIL every packed record is PENDING again with attempts and next try as
they were. A matching result clears the timeout count and the fault note, and the send order is judged; the
third timeout recovers the modem, with RADIO_FAULT unless the note is set. A MODEM_READY in TRANSMITTING, a
withdrawal of permission and a block restart end the send as FAIL too (R148, R160).

R154: the end of a RESULT send: on DONE the reply slot is emptied, unless a newer result has entered it; on
FAIL, by a TX_RESULT, the modem timeout, a MODEM_READY or a withdrawal of permission, the result stays, out
of send, to be sent again; in IDLE the send order is then judged, and the third timeout recovers the modem
(R146, R148). -/
def Obligations.SendsEnd : Prop :=
  (∀ (tag number outcome reason : Byte) (crc : Half) (x : Send) (numbers : List Nat) (rest : List Bool)
     (s : State),
     s.power = .running → s.rad.send = some x → x.records = some numbers → numbers ≠ [] →
     let good := crc = crc16 [3#8, 0x41#8, tag, number, outcome, reason] ∧ x.number = number.toNat
     let done := outcome = 0#8 ∧ reason = 255#8
     let failed := outcome = 1#8 ∧ (reason = 0#8 ∨ reason = 1#8)
     let packed := fun (r : EventRecord) => r ∈ s.eq.records ∧ r.number ∈ numbers ∧ r.inSend = true
       ∧ r.radio = .pending
     let ended := fun (u : State) =>
       u.rad.send = none ∧ u.rad.modemTimer = none ∧ u.mail.stageRadio = s.mail.stageRadio ++ [false]
         ∧ ∀ r, packed r → { r with inSend := false, renewed := false } ∈ u.eq.records
     (good → done → ∃ u, exec (.txResult tag [number, outcome, reason] crc) s = .next (judgeSend u)
         ∧ u.rad.state = .idle ∧ u.rad.send = none ∧ u.rad.timeouts = 0 ∧ u.rad.faultNote = false
         ∧ u.rad.lastMatch = some s.elapsed ∧ u.rad.credit = s.rad.credit
         ∧ ∀ r, packed r →
             let a := min 255 (r.attempts + 1)
             let wait := min (s.cfg.radio.ackBase * 2 ^ (a - 1)) (16 * s.cfg.radio.ackBase)
             (r.cls ≠ .status → { r with
                 inSend := false, radio := .awaitingAck, attempts := a,
                 nextTry := s.elapsed + 1000 * wait } ∈ u.eq.records)
               ∧ (r.cls = .status → r.renewed = true →
                   { r with inSend := false, renewed := false } ∈ u.eq.records)
               ∧ (r.cls = .status → r.renewed = false → r.cabinet = .notForCabinet →
                   (s.eq.records.map EventRecord.number).Nodup →
                   ∀ y ∈ u.eq.records, y.number ≠ r.number))
       ∧ (good → failed → ∃ u, exec (.txResult tag [number, outcome, reason] crc) s = .next (judgeSend u)
           ∧ ended u ∧ u.rad.state = .idle ∧ u.rad.timeouts = 0 ∧ u.rad.faultNote = false
           ∧ u.rad.lastMatch = some s.elapsed ∧ u.rad.credit = s.rad.credit)
       ∧ (x.number ≠ number.toNat → exec (.txResult tag [number, outcome, reason] crc) s = .next s)
       ∧ (Hearing s → s.rad.state = .transmitting →
           ∃ u, exec (.modemReady tag [] (crc16 [0#8, 0x43#8, tag])) s = .next (judgeSend u) ∧ ended u
             ∧ u.rad.state = .idle ∧ u.rad.timeouts = 0)
       ∧ (s.mail.permission = false :: rest →
           ∃ t, exec .modemPermissionChange s = .next t ∧ ended t ∧ t.rad.state = .off)
       ∧ (Ready s → ∃ t, exec (.blockRestartRadio tag) s = .next t ∧ ended t)
       ∧ ∀ d, s.rad.modemTimer = some d →
           (s.elapsed < d → exec .modemTimeout s = .next s)
             ∧ (d ≤ s.elapsed → s.rad.timeouts < 2 →
                 ∃ u, exec .modemTimeout s = .next (judgeSend u) ∧ ended u ∧ u.rad.state = .idle
                   ∧ u.rad.timeouts = s.rad.timeouts + 1)
             ∧ (d ≤ s.elapsed → 2 ≤ s.rad.timeouts →
                 ∃ t, exec .modemTimeout s = .next t ∧ ended t ∧ t.rad.state = .recovering
                   ∧ t.rad.timeouts = 0 ∧ t.rad.request = false
                   ∧ t.rad.recoveryTimer = some (s.elapsed + 2000) ∧ t.rad.faultNote = true
                   ∧ (s.rad.faultNote = true → t.mail.raised = s.mail.raised)
                   ∧ (s.rad.faultNote = false → ∃ since,
                       t.mail.raised = s.mail.raised ++
                         [(.radio, .radioFault .sendTimeout since)])))
    ∧ (∀ (tag number outcome reason : Byte) (crc : Half) (x : Send) (rest : List Bool) (s : State),
         s.power = .running → s.rad.send = some x → x.records = none →
         let good := crc = crc16 [3#8, 0x41#8, tag, number, outcome, reason] ∧ x.number = number.toNat
         let done := outcome = 0#8 ∧ reason = 255#8
         let failed := outcome = 1#8 ∧ (reason = 0#8 ∨ reason = 1#8)
         let matched := fun (slot : Option SlotResult) => Host.Outcome.next (judgeSend { s with
           rad := { s.rad with
             state := .idle, send := none, modemTimer := none, timeouts := 0, faultNote := false,
             lastMatch := some s.elapsed, slot := slot },
           mail := { s.mail with stageRadio := s.mail.stageRadio ++ [false] } })
         (good → done →
             (s.rad.slot = none → exec (.txResult tag [number, outcome, reason] crc) s = matched none)
               ∧ ∀ r, s.rad.slot = some r → exec (.txResult tag [number, outcome, reason] crc) s
                   = matched (if r.inSend then none else some r))
           ∧ (good → failed → ∀ r, s.rad.slot = some r →
               exec (.txResult tag [number, outcome, reason] crc) s = matched (some { r with inSend := false }))
           ∧ (∀ d r, s.rad.modemTimer = some d → s.rad.slot = some r → d ≤ s.elapsed → s.rad.timeouts < 2 →
               exec .modemTimeout s = .next (judgeSend { s with
                 rad := { s.rad with
                   state := .idle, send := none, modemTimer := none, timeouts := s.rad.timeouts + 1,
                   slot := some { r with inSend := false } },
                 mail := { s.mail with stageRadio := s.mail.stageRadio ++ [false] } }))
           ∧ (∀ d r, s.rad.modemTimer = some d → s.rad.slot = some r → d ≤ s.elapsed → 2 ≤ s.rad.timeouts →
               ∃ since, exec .modemTimeout s = .next { s with
                 rad := { s.rad with
                   state := .recovering, send := none, modemTimer := none, timeouts := 0, request := false,
                   readyWait := none, recoveryTimer := some (s.elapsed + 2000), faultNote := true,
                   slot := some { r with inSend := false } },
                 mail := { s.mail with
                   stageRadio := s.mail.stageRadio ++ [false],
                   raised := s.mail.raised ++ (if s.rad.faultNote then []
                     else [(.radio, .radioFault .sendTimeout since)]) } })
           ∧ (∀ r, Hearing s → s.rad.state = .transmitting → s.rad.slot = some r →
               exec (.modemReady tag [] (crc16 [0#8, 0x43#8, tag])) s = .next (judgeSend { s with
                 rad := { s.rad with
                   state := .idle, send := none, modemTimer := none, timeouts := 0,
                   slot := some { r with inSend := false } },
                 mail := { s.mail with stageRadio := s.mail.stageRadio ++ [false] } }))
           ∧ ∀ r, s.mail.permission = false :: rest → s.rad.slot = some r →
               exec .modemPermissionChange s = .next { s with
                 rad := { s.rad with
                   state := .off, send := none, modemTimer := none, permitted := false, request := true,
                   recoveryTimer := none, readyWait := none, slot := some { r with inSend := false } },
                 mail := { s.mail with
                   permission := rest, stageRadio := s.mail.stageRadio ++ [false] } })

/-- R146, R148: after a recovery the modem is asked for again with the ready wait of 5,000 ms; its expiry
counts as a timeout, and the third recovers the modem with NO_READY. MODEM_READY clears the count while the
modem is powered, asked for and permitted by the power state (R117), and brings OFF and RECOVERING to IDLE.
A withdrawal of permission makes the radio OFF with its request standing, and its return starts the ready
wait.

R156, R160: an ACK of 1 to 8 numbers makes each record named that is PENDING or AWAITING_ACK ACKED, and
leaves the queue those whose parts are both done; another length is answered BAD_LENGTH and names nothing.
POLL enters OK in the reply slot and hands a STATUS record to the queue. BLOCK_RESTART naming RADIO empties
the slot, takes the credit to 0 and recovers the modem, or leaves it OFF without permission.

That POLL judges the send order with both in place, and that an unpowered modem is not heard, are the
model's readings (log entries 20 and 41). -/
def Obligations.ModemPowerAndRadioCommands : Prop :=
  (∀ (d : Nat) (tag : Byte) (rest : List Bool) (s : State), s.power = .running →
     let crc := crc16 [0#8, 0x43#8, tag]
     (s.rad.recoveryTimer = some d →
         exec .recoveryTimerExpiry s = .next (if d ≤ s.elapsed then
           { s with rad := { s.rad with
               request := true, recoveryTimer := none, readyWait := some (s.elapsed + 5000) } }
           else s))
       ∧ (s.rad.readyWait = some d → s.elapsed < d → exec .readyWaitExpiry s = .next s)
       ∧ (s.rad.readyWait = some d → d ≤ s.elapsed → s.rad.timeouts < 2 →
           exec .readyWaitExpiry s = .next { s with rad := { s.rad with
             timeouts := s.rad.timeouts + 1, readyWait := some (s.elapsed + 5000) } })
       ∧ (s.rad.readyWait = some d → d ≤ s.elapsed → 2 ≤ s.rad.timeouts →
           ∃ since, exec .readyWaitExpiry s = .next { s with
             rad := { s.rad with
               state := .recovering, timeouts := 0, request := false, readyWait := none,
               recoveryTimer := some (s.elapsed + 2000), faultNote := true },
             mail := { s.mail with raised := s.mail.raised ++
               (if s.rad.faultNote then [] else [(.radio, .radioFault .noReady since)]) } })
       ∧ (s.rad.request = false ∨ s.bat.power ≠ some .run → exec (.modemReady tag [] crc) s = .next s)
       ∧ (Hearing s → s.rad.state = .off ∨ s.rad.state = .recovering →
           exec (.modemReady tag [] crc) s = .next (judgeSend { s with rad := { s.rad with
             state := .idle, timeouts := 0, readyWait := none } }))
       ∧ (Hearing s → s.rad.state = .idle →
           exec (.modemReady tag [] crc) s = .next { s with rad := { s.rad with timeouts := 0 } })
       ∧ (s.mail.permission = true :: rest →
           exec .modemPermissionChange s = .next { s with
             mail := { s.mail with permission := rest },
             rad := { s.rad with
               permitted := true,
               readyWait :=
                 if s.rad.state = .off ∨ s.rad.state = .recovering then some (s.elapsed + 5000)
                 else s.rad.readyWait } })
       ∧ (s.mail.permission = false :: rest → s.rad.send = none →
           exec .modemPermissionChange s = .next { s with
             mail := { s.mail with permission := rest },
             rad := { s.rad with
               state := .off, permitted := false, request := true, recoveryTimer := none,
               readyWait := none } })
       ∧ (s.mail.permission = false :: rest → s.rad.send ≠ none →
           ∃ t, exec .modemPermissionChange s = .next t ∧ t.rad.state = .off ∧ t.rad.send = none
             ∧ t.rad.credit = s.rad.credit ∧ t.rad.request = true ∧ t.rad.permitted = false))
    ∧ (∀ (number tag : Byte) (body : List Byte) (s : State),
         (Hearing s → body.length % 2 = 1 ∨ body.length < 2 ∨ 16 < body.length →
             exec (.ack number body) s = .next (judgeSend (withSlot 0#8 number .badLength none s)))
           ∧ (Hearing s → body.length % 2 = 0 → 2 ≤ body.length → body.length ≤ 16 →
               ∃ t, exec (.ack number body) s = .next t
                 ∧ t = { s with eq := { s.eq with records := t.eq.records, armed := t.eq.armed } }
                 ∧ t.eq.records = (s.eq.records.map fun r =>
                       if r.number ∈ ackNumbers body ∧ (r.radio = .pending ∨ r.radio = .awaitingAck) then
                         { r with radio := .acked }
                       else r).filter fun r => !(decide (r.radio ∈ [.notForRadio, .acked, .dropped])
                         && decide (r.cabinet ≠ .pending)))
           ∧ (Hearing s → exec (.poll number) s
               = .next (judgeSend (takeStatus (withSlot 1#8 number .ok none s))))
           ∧ (Ready s → s.rad.send = none →
               exec (.blockRestartRadio tag) s = .next (replied 26#8 tag .ok .nothing { s with
                 rad := { s.rad with
                   state := if s.rad.permitted then .recovering else .off, request := !s.rad.permitted,
                   slot := none, credit := 0, timeouts := 0, faultNote := false,
                   refillTimer := some (s.elapsed + 1000),
                   statusTimer := if s.cfg.radio.statusPeriod = 0 then none
                     else some (s.elapsed + s.cfg.radio.statusPeriod * 1000),
                   modemTimer := none, readyWait := none,
                   recoveryTimer := if s.rad.permitted then some (s.elapsed + 2000) else none } }))
           ∧ (Ready s → s.rad.send ≠ none →
               ∃ t, exec (.blockRestartRadio tag) s = .next t ∧ t.rad.send = none ∧ t.rad.slot = none
                 ∧ t.rad.credit = 0 ∧ t.rad.sendNumber = s.rad.sendNumber
                 ∧ t.mail.stageRadio = s.mail.stageRadio ++ [false]))

/-! ## Fault capture -/

/-- R162: a set that reaches the capture unit is written into the ring of the segment RECORDING or in POST, over
the oldest set of a full ring; in POST a set after the trigger set raises post written, and the one that
reaches post count, or finds it already reached, freezes the segment, sets CAPTURE_READY and makes the
lowest-numbered FREE segment RECORDING. With no such segment the set is not written.

R163: a trigger makes a capture of the RECORDING segment: it enters POST with the next capture id, the
trigger set, the trigger time, a pre held of the sets up to the trigger set that the ring holds or will still
hold, at most the pre-trigger in force, and the post count in force. In POST the
answer is the id of the capture being made, and nothing changes. With no such segment, or a trigger set that
came before the segment recorded, the trigger is missed. The next id passes over the ids held.

That writes in POST count toward recorded, the numbers of sets, a pre held that counts sets still to
come, and a freezing write that may overwrite the oldest pre-trigger set, are the model's (log entries
25, 37, 66 and 67). -/
def Obligations.CapturesAreMade : Prop :=
  (∀ (m : MeasSet) (rest : List MeasSet) (s : State), s.power = .running → s.mail.capSets = m :: rest →
     let size := 512 / s.cap.segments.length
     let taken := fun (segments : List Segment) => { s with
       mail := { s.mail with capSets := rest },
       cap := { s.cap with segments := segments, lastSet := m.index } }
     ((∀ g ∈ s.cap.segments, g.state = .free ∨ g.state = .frozen) →
         exec .captureSetWrite s = .next (taken s.cap.segments))
       ∧ ∀ before g after, s.cap.segments = before ++ g :: after →
           (∀ x ∈ before ++ after, x.state = .free ∨ x.state = .frozen) →
           let written := { g with
             ring := (g.ring ++ [m]).drop (g.ring.length + 1 - size),
             recorded := min size (g.recorded + 1) }
           (g.state = .recording →
               exec .captureSetWrite s = .next (taken (before ++ written :: after)))
             ∧ ∀ c, g.state = .post → g.capture = some c →
                 let counted := { written with
                   capture := some { c with postWritten := min c.postCount (c.postWritten + 1) } }
                 let frozen := { counted with state := .frozen }
                 let ready := { s.cab with flags := { s.cab.flags with captureReady := true } }
                 (m.index ≤ c.trigger →
                     exec .captureSetWrite s = .next (taken (before ++ written :: after)))
                   ∧ (c.trigger < m.index → c.postWritten + 1 < c.postCount →
                       exec .captureSetWrite s = .next (taken (before ++ counted :: after)))
                   ∧ (c.trigger < m.index → c.postCount ≤ c.postWritten + 1 →
                       (∀ x ∈ before ++ after, x.state ≠ .free) →
                       exec .captureSetWrite s
                         = .next { taken (before ++ frozen :: after) with cab := ready })
                   ∧ (c.trigger < m.index → c.postCount ≤ c.postWritten + 1 →
                       ∀ front f back, before ++ frozen :: after = front ++ f :: back →
                       f.state = .free → (∀ x ∈ front, x.state ≠ .free) →
                       exec .captureSetWrite s = .next { taken (front ++
                           ({ state := .recording, recorded := 0, ring := [], first := m.index + 1,
                              capture := none } : Segment) :: back) with cab := ready }))
    ∧ (∀ (trigger : Nat) (s : State),
         ((∀ g ∈ s.cap.segments, g.state = .free ∨ g.state = .frozen) →
             triggerCapture trigger s = (.missed, s))
           ∧ ∀ before g after, s.cap.segments = before ++ g :: after →
               (∀ x ∈ before ++ after, x.state = .free ∨ x.state = .frozen) →
               (∀ c, g.state = .post → g.capture = some c →
                   triggerCapture trigger s = (.id c.id, s))
                 ∧ (g.state = .recording → g.capture = none → trigger < g.first →
                     triggerCapture trigger s = (.missed, s))
                 ∧ (g.state = .recording → g.capture = none → g.first ≤ trigger →
                     s.cap.lastSet < trigger + g.ring.length →
                     let post : Segment := { g with
                       state := .post,
                       capture := some
                         { id := s.cap.nextId, trigger := trigger, time := s.clock,
                           preHeld := min s.cfg.capture.pre (g.ring.length + trigger - s.cap.lastSet),
                           postCount := s.cfg.capture.post,
                           postWritten := min s.cfg.capture.post (s.cap.lastSet - trigger) } }
                     ∃ next, triggerCapture trigger s = (.id s.cap.nextId, { s with
                         cap := { s.cap with segments := before ++ post :: after, nextId := next } })
                       ∧ (s.cap.segments.length ≤ 4 → s.cap.nextId < 65536 →
                           ∀ x ∈ before ++ post :: after, x.capture.map CaptureFields.id ≠ some next)
                       ∧ ((∀ x ∈ before ++ after,
                             x.capture.map CaptureFields.id ≠ some ((s.cap.nextId + 1) % 65536)) →
                           s.cap.nextId < 65536 → next = (s.cap.nextId + 1) % 65536)))

/-- R164: the reply of CAPTURE_LIST holds the segment count, the number and state of the segment RECORDING or
in POST, and a line for each FROZEN segment in segment order. A segment in POST is not listed.

R165: a read of an id that no FROZEN segment holds is answered NOT_FROZEN, of an index above the length
BAD_INDEX; neither moves the cursor. A read returns the sets from its index, up to 24 and to the end of the
capture, with the number left, and puts the cursor behind them; one at the length returns END alone.
CAPTURE_READ_NEXT reads at the cursor, and is answered NOT_FROZEN without one.

R166, R168: a release of an id that no FROZEN segment holds is answered NOT_FROZEN; otherwise the segment
becomes FREE, or RECORDING when no segment is RECORDING or in POST, and a cursor on that id is absent. A
block restart clears every segment, segment 0 becomes RECORDING, the cursor is absent, and the settings and
the next capture id are kept.

The number of the first set a segment can hold is the model's record of a set's place in the order (log
entry 25); that a FREE segment has recorded 0 and no sets is its choice (log entry 81). -/
def Obligations.CapturesAreListedReadAndReleased : Prop :=
  (∀ (tag : Byte) (s : State), Ready s →
     let numbered := s.cap.segments.zipIdx
     let active := (numbered.find? fun x =>
       decide (x.1.state = .recording) || decide (x.1.state = .post)).map fun x => (x.2, x.1.state)
     let lines : List CaptureLine := numbered.filterMap fun x =>
       if x.1.state = .frozen then
         x.1.capture.map fun c =>
           { segment := x.2, id := c.id, time := c.time, preHeld := c.preHeld, postCount := c.postCount,
             length := c.preHeld + c.postCount }
       else none
     exec (.captureList tag) s
       = .next (replied 22#8 tag .ok (.captures s.cap.segments.length active lines) s))
    ∧ (∀ (tag : Byte) (id index : Half) (s : State), Ready s →
         let reads := fun (command : Instr) (kind : Byte) (id index : Nat) =>
           let holds := fun (g : Segment) =>
             g.state = .frozen ∧ g.capture.map CaptureFields.id = some id
           ((∀ g ∈ s.cap.segments, ¬ holds g) →
               exec command s = .next (replied kind tag .notFrozen .nothing s))
             ∧ ∀ before g after c, s.cap.segments = before ++ g :: after → holds g → g.capture = some c →
                 (∀ x ∈ before, ¬ holds x) →
                 let length := c.preHeld + c.postCount
                 let sets := ((g.ring.filter fun m =>
                   decide (c.trigger < m.index + c.preHeld)
                     && decide (m.index ≤ c.trigger + c.postCount)).drop index).take 24
                 (length < index → exec command s = .next (replied kind tag .badIndex .nothing s))
                   ∧ (index = length →
                       exec command s = .next (replied kind tag .ok (.samples id index [] 0 true) s))
                   ∧ (index < length →
                       exec command s = .next (replied kind tag .ok
                         (.samples id index sets (length - index - sets.length) false)
                         { s with cap := { s.cap with cursor := some (id, index + sets.length) } }))
         reads (.captureRead tag id index) 23#8 id.toNat index.toNat
           ∧ (s.cap.cursor = none →
               exec (.captureReadNext tag) s = .next (replied 24#8 tag .notFrozen .nothing s))
           ∧ ∀ i n, s.cap.cursor = some (i, n) → reads (.captureReadNext tag) 24#8 i n)
    ∧ (∀ (tag : Byte) (id : Half) (s : State), Ready s →
         let holds := fun (g : Segment) =>
           g.state = .frozen ∧ g.capture.map CaptureFields.id = some id.toNat
         let free : Segment := { state := .free, recorded := 0, ring := [], first := 0, capture := none }
         let recording : Segment :=
           { state := .recording, recorded := 0, ring := [], first := s.cap.lastSet + 1, capture := none }
         let idle := ∀ g ∈ s.cap.segments, g.state ≠ .recording ∧ g.state ≠ .post
         ((∀ g ∈ s.cap.segments, ¬ holds g) →
             exec (.captureRelease tag id) s = .next (replied 25#8 tag .notFrozen .nothing s))
           ∧ (∀ before g after, s.cap.segments = before ++ g :: after → holds g →
               (∀ x ∈ before, ¬ holds x) →
               let released := fun (x : Segment) => Host.Outcome.next (replied 25#8 tag .ok .nothing { s with
                 cap := { s.cap with
                   segments := before ++ x :: after,
                   cursor := if s.cap.cursor.map Prod.fst = some id.toNat then none else s.cap.cursor } })
               (idle → exec (.captureRelease tag id) s = released recording)
                 ∧ (¬ idle → exec (.captureRelease tag id) s = released free))
           ∧ ∀ g gs, s.cap.segments = g :: gs →
               exec (.blockRestartCapture tag) s = .next (replied 26#8 tag .ok .nothing { s with
                 cap := { s.cap with
                   segments := recording :: List.replicate gs.length free, cursor := none } }))

/-! ## Cabinet link -/

/-- R170, R143: a request frame that arrives before the start has completed is answered BUSY, and so is one
that arrives while a reply is owed. One that arrives while a fetch waits ends the wait with EMPTY and is
then taken with no reply owed. A BUSY reply changes nothing else.

R170: a frame whose kind names no request is answered BAD_KIND, one whose body length does not suit its
kind BAD_LENGTH, and a BLOCK_RESTART that names none of the four blocks BAD_INDEX (R131). -/
def Obligations.RequestsAreTakenInTurn : Prop :=
  (∀ (tag x y : Byte) (h k : Half) (w : Wide) (content : List Byte) (c : Instr) (kind : Byte) (s : State),
     s.power = .running →
     (c, kind) ∈ [(Instr.statusGet tag, 1#8), (.statusClear tag, 2#8), (.eventFetch tag x, 3#8),
       (.attnGet tag, 4#8), (.attnClear tag x, 5#8), (.attnMask tag x, 6#8),
       (.settingsWrite tag x y content, 7#8), (.settingsRead tag x y, 8#8), (.stageGet tag, 9#8),
       (.stageDiscard tag, 10#8), (.tagPlace tag x h, 11#8), (.tagRemove tag x h, 12#8),
       (.tagList tag, 13#8), (.poleTrip tag x, 14#8), (.poleClose tag x, 15#8),
       (.poleFailClear tag x, 16#8), (.timeSet tag w h, 17#8), (.counterRead tag, 18#8),
       (.counterSet tag x w, 19#8), (.batteryTestStart tag, 20#8), (.batteryResultGet tag, 21#8),
       (.captureList tag, 22#8), (.captureRead tag h k, 23#8), (.captureReadNext tag, 24#8),
       (.captureRelease tag h, 25#8), (.blockRestartRadio tag, 26#8), (.blockRestartOptical tag, 26#8),
       (.blockRestartCapture tag, 26#8), (.blockRestartBatteryTest tag, 26#8)] →
     let busy := { s with cab := { s.cab with replies := s.cab.replies ++
       [{ kind := kind, tag := tag, code := .busy, content := .nothing }] } }
     (s.cab.started = false → exec c s = .next busy)
       ∧ (s.eq.fetch = none → s.cab.owed.isSome = true → exec c s = .next busy)
       ∧ ∀ f o, s.cab.started = true → s.eq.fetch = some f → s.cab.owed = some o →
           o.request = f.request →
           exec c s = exec c { s with
             eq := { s.eq with fetch := none },
             cab := { s.cab with owed := none, replies := s.cab.replies ++
               [{ kind := o.kind, tag := o.tag, code := .empty, content := .nothing }] } })
    ∧ (∀ (kind tag name : Byte) (body : List Byte) (s : State),
         Ready s → s.cab.openBytes = [] → body.length ≤ 240 →
         (kind = 0#8 ∨ 27 ≤ kind.toNat →
             exec (.requestFrame (frameBytes kind tag body)) s = .next { s with cab := { s.cab with
               lastByte := s.elapsed, replies := s.cab.replies ++
                 [{ kind := kind, tag := tag, code := .badKind, content := .nothing }] } })
           ∧ (∀ length, (kind.toNat, length) ∈ [(1, 0), (2, 0), (3, 1), (4, 0), (5, 1), (6, 1), (8, 2),
                 (9, 0), (10, 0), (11, 3), (12, 3), (13, 0), (14, 1), (15, 1), (16, 1), (17, 6), (18, 0),
                 (19, 5), (20, 0), (21, 0), (22, 0), (23, 4), (24, 0), (25, 2), (26, 1)] →
               body.length ≠ length →
               exec (.requestFrame (frameBytes kind tag body)) s = .next { s with cab := { s.cab with
                 lastByte := s.elapsed, replies := s.cab.replies ++
                   [{ kind := kind, tag := tag, code := .badLength, content := .nothing }] } })
           ∧ (body = [] → exec (.requestFrame (frameBytes 7#8 tag body)) s = .next { s with
               cab := { s.cab with lastByte := s.elapsed, replies := s.cab.replies ++
                 [{ kind := 7#8, tag := tag, code := .badLength, content := .nothing }] } })
           ∧ (4 ≤ name.toNat →
               exec (.requestFrame (frameBytes 26#8 tag [name])) s
                 = .next (replied 26#8 tag .badIndex .nothing
                   { s with cab := { s.cab with lastByte := s.elapsed } })))

/-- R172, R173: ATTN_GET gives the flags and the mask; ATTN_CLEAR clears the flags it names and no other, and
ATTN_MASK puts a whole new mask, each refused BAD_VALUE for a bit outside the seven. The ATTENTION line is
active exactly while the part is started, the cabinet controller is powered and a flag that the mask does
not mark is set.

R174, R56: STATUS_GET gives the status content of the part as it stands, with the present time;
STATUS_CLEAR clears "blocked close seen" and nothing else.

R171: "cabinet power off" ends a waiting fetch without a reply, discards the open frame without
LINK_ERROR and abandons an owed reply; the flags and the mask are kept; "cabinet power on" powers the link
again.

R169: a frame is dropped for a length above 240, for a CRC that does not match and for a gap of more than
10 ms; each drop sets LINK_ERROR, draws no reply and closes the frame. A byte other than the start byte
while no frame is open is discarded and sets no flag.

A BAD_VALUE without a field index, and a gap taken at the next byte, are the model's readings (log
entries 9 and 52). -/
def Obligations.AttentionStatusAndLinkAreServed : Prop :=
  (∀ (tag bits : Byte) (s : State),
     let named : AttnFlags :=
       { eventPending := bits.getLsbD 0, queueHigh := bits.getLsbD 1, settingsApplied := bits.getLsbD 2,
         captureReady := bits.getLsbD 3, linkError := bits.getLsbD 4, storeFault := bits.getLsbD 5,
         restarted := bits.getLsbD 6 }
     (Ready s →
         exec (.attnGet tag) s = .next (replied 4#8 tag .ok (.attention s.cab.flags s.cab.mask) s)
           ∧ (128 ≤ bits.toNat →
               exec (.attnClear tag bits) s = .next (replied 5#8 tag .badValue (.badField none) s)
                 ∧ exec (.attnMask tag bits) s = .next (replied 6#8 tag .badValue (.badField none) s))
           ∧ (bits.toNat < 128 →
               exec (.attnMask tag bits) s = .next (replied 6#8 tag .ok .nothing
                   { s with cab := { s.cab with mask := named } })
                 ∧ ∃ flags, exec (.attnClear tag bits) s = .next (replied 5#8 tag .ok .nothing
                       { s with cab := { s.cab with flags := flags } })
                     ∧ flags.toList = (s.cab.flags.toList.zip named.toList).map fun x => x.1 && !x.2))
       ∧ (attentionLine s = true ↔ s.power = .running ∧ s.cab.started = true ∧ s.cab.powered = true
           ∧ ∃ x ∈ s.cab.flags.toList.zip s.cab.mask.toList, x.1 = true ∧ x.2 = false))
    ∧ (∀ (tag : Byte) (s : State), Ready s →
         let pole := fun (p : Pole) => (
           { pole := s.meas.pole.get p,
             seqState := if s.seq.created then some (s.seq.recs.get p).state else none,
             shot := (s.seq.recs.get p).shot, failed := s.en.failed.get p } : PoleStatus)
         let held := fun (k : TagKind) => s.tags.table.any fun e => decide (e.kind = k)
         let content : StatusContent :=
           { cause := s.cause, poles := { a := pole .a, b := pole .b, c := pole .c },
             mode := s.cfg.prot.tripMode, blockedSeen := s.seq.blockedSeen,
             leverTripped := s.meas.inputs.leverTripped, selectorRemote := s.meas.inputs.selectorRemote,
             supply := s.meas.supply, tagCount := s.tags.table.length,
             kinds := { hotLine := held .hotLine, doNotClose := held .doNotClose,
                        remoteBlock := held .remoteBlock, systemHold := held .systemHold },
             hold := s.tags.holdPending, power := s.bat.power, charger := s.bat.charger,
             vBatt := s.meas.averages.vBatt, iBatt := s.meas.averages.iBatt, temp := s.meas.averages.temp,
             vBank := s.meas.averages.vBank, verdict := s.bat.lastTest.map TestRecord.verdict,
             occupancy := s.eq.records.length, credit := s.rad.credit, stage := s.stage.fifo.length }
         exec (.statusGet tag) s = .next (replied 1#8 tag .ok (.status content s.clock) s)
           ∧ exec (.statusClear tag) s
             = .next (replied 2#8 tag .ok .nothing { s with seq := { s.seq with blockedSeen := false } }))
    ∧ (∀ (on : Bool) (rest : List Bool) (s : State), s.power = .running → s.mail.cabinetPower = on :: rest →
         let taken := { s with mail := { s.mail with cabinetPower := rest } }
         (on = false → exec .cabinetPowerOn s = .next s
             ∧ exec .cabinetPowerOff s = .next { taken with
               eq := { s.eq with fetch := none },
               cab := { s.cab with openBytes := [], owed := none, powered := false } })
           ∧ (on = true → exec .cabinetPowerOff s = .next s
             ∧ exec .cabinetPowerOn s = .next { taken with cab := { s.cab with powered := true } }))
    ∧ (∀ (len kind tag : Byte) (body crc : List Byte) (s : State), s.power = .running →
         let dropped := { s with cab := { s.cab with
           openBytes := [], lastByte := s.elapsed,
           flags := { s.cab.flags with linkError := true } } }
         (s.cab.openBytes = [] → 240 < len.toNat →
             exec (.cabinetFrameDropped [0xC3#8, len]) s = .next dropped)
           ∧ (s.cab.openBytes = [] → body.length ≤ 240 → crc.length = 2 →
               crc ≠ leBytes 2 (crc16 (BitVec.ofNat 8 body.length :: kind :: tag :: body)).toNat →
               exec (.cabinetFrameDropped
                 (0xC3#8 :: BitVec.ofNat 8 body.length :: kind :: tag :: (body ++ crc))) s = .next dropped)
           ∧ (s.cab.openBytes ≠ [] → s.cab.lastByte + 10 < s.elapsed →
               exec .cabinetFrameGap s = .next { s with cab := { s.cab with
                 openBytes := [], flags := { s.cab.flags with linkError := true } } })
           ∧ (s.cab.openBytes = [] ∨ s.elapsed ≤ s.cab.lastByte + 10 → exec .cabinetFrameGap s = .next s)
           ∧ (s.cab.openBytes = [] → kind ≠ 0xC3#8 → exec (.cabinetFrameDropped [kind]) s = .next s))

/-- R175: SETTINGS_WRITE is refused BAD_INDEX for no block, BAD_LENGTH for a length that does not suit it,
STAGE_FULL when it needs the tail of a full FIFO, and BAD_VALUE with the index of the first field in error.
One that passes is answered OK and replaces the entry of its block in place or joins the tail, and the head
is judged.

R176: a notice sets the stager's view of an apply point, and the head is judged. A head whose apply point
does not hold waits. One whose point holds is put in force, leaves the FIFO, goes to the settings store, and
raises SETTINGS_APPLIED as event and flag. By the last notice, PROTECTION, CURVE and CAPTURE apply at rest,
BATTERY with no test running, RADIO while not transmitting (with no send in flight, R158); ROSTER always.

R20, R36, R52, R101, R102, R106, R157, R158, R167: PROTECTION and CURVE clear the elements' accumulators
and counts; PROTECTION gives every record its operations to lockout, and a change to GANGED one state and
the highest shot count, with those in REST locked out THREE_POLE and tripped, with one LOCKOUT event, where
some are in LOCKOUT; BATTERY computes the targets, judges the absorb timer and takes a changed test period;
RADIO holds the credit at the cap and takes a changed status period; CAPTURE with another segment count
clears every segment.

R176: two entries whose apply points hold apply on one event, head first: both are in force, each is
recorded, and the FIFO is empty; a second whose point does not hold is left as the head.

R177: SETTINGS_READ gives the staged content with the mark STAGED when the FIFO holds the block and the
content in force otherwise, and refuses BAD_INDEX for no block; STAGE_GET lists the entries, head first, and
whether their apply points hold; STAGE_DISCARD removes every entry and says how many.

The curve id of another block in a request, the RADIO block that reads the radio, and records that left
rest before a change to GANGED are the model's (log entries 61, 74 and 76). -/
def Obligations.SettingsAreStagedAndApplied : Prop :=
  (∀ (tag block curve : Byte) (bytes : List Byte) (s : State), Ready s →
     let write := exec (.settingsWrite tag block curve bytes) s
     (6 ≤ block.toNat ∨ 12 ≤ curve.toNat ∨ (block.toNat ≠ 1 ∧ curve.toNat ≠ 0) →
         write = .next (replied 7#8 tag .badIndex .nothing s))
       ∧ (∀ b, blockOf block curve = some b ↔ match b with
           | .protection => block = 0#8 ∧ curve = 0#8
           | .curve id => block = 1#8 ∧ curve.toNat = id.val
           | .battery => block = 2#8 ∧ curve = 0#8
           | .radio => block = 3#8 ∧ curve = 0#8
           | .roster => block = 4#8 ∧ curve = 0#8
           | .capture => block = 5#8 ∧ curve = 0#8)
       ∧ ∀ b, blockOf block curve = some b →
           let present := ∃ c ∈ s.stage.fifo, c.name = b
           (lengthSuits b bytes = false →
               write = .next { s with cab := { s.cab with replies := s.cab.replies ++
                 [{ kind := 7#8, tag := tag, code := .badLength, content := .nothing }] } })
             ∧ (lengthSuits b bytes = true → ¬ present → 2 ≤ s.stage.fifo.length →
                 write = .next (replied 7#8 tag .stageFull .nothing s))
             ∧ (lengthSuits b bytes = true → present ∨ s.stage.fifo.length < 2 →
                 (∀ i, checkBlock s.cfg s.stage.fifo b bytes = .bad i →
                     write = .next (replied 7#8 tag .badValue (.badField (some i)) s))
                   ∧ ∀ c, checkBlock s.cfg s.stage.fifo b bytes = .good c →
                       c.name = b
                         ∧ (present → write = .next (judgeHead (replied 7#8 tag .ok .nothing { s with
                             stage := { s.stage with
                               fifo := s.stage.fifo.map fun x => if x.name = b then c else x } })))
                         ∧ (¬ present → write = .next (judgeHead (replied 7#8 tag .ok .nothing { s with
                             stage := { s.stage with fifo := s.stage.fifo ++ [c] } })))))
    ∧ (∀ (flag : Bool) (rest : List Bool) (s : State), s.power = .running →
         let point := fun (b : BlockName) =>
           (b = .roster)
             ∨ (b = .battery ∧ s.stage.testRunning = false)
             ∨ (b = .radio ∧ s.stage.transmitting = false ∧ s.rad.state ≠ .transmitting)
             ∨ ((b = .protection ∨ b = .capture ∨ ∃ n, b = .curve n) ∧ s.stage.atRest = true)
         (s.mail.stageRest = flag :: rest →
             exec (.stagerNotice .sequence) s = .next (judgeHead { s with
               mail := { s.mail with stageRest := rest }, stage := { s.stage with atRest := flag } }))
           ∧ (s.mail.stageTest = flag :: rest →
               exec (.stagerNotice .battery) s = .next (judgeHead { s with
                 mail := { s.mail with stageTest := rest },
                 stage := { s.stage with testRunning := flag } }))
           ∧ (s.mail.stageRadio = flag :: rest →
               exec (.stagerNotice .radio) s = .next (judgeHead { s with
                 mail := { s.mail with stageRadio := rest },
                 stage := { s.stage with transmitting := flag } }))
           ∧ (s.stage.fifo = [] → judgeHead s = s)
           ∧ (∀ c fifo, s.stage.fifo = c :: fifo → ¬ point c.name → judgeHead s = s)
           ∧ ∀ c, s.stage.fifo = [c] → point c.name →
               let t := judgeHead s
               t.stage = { s.stage with fifo := [] }
                 ∧ contentInForce t.cfg c.name = c
                 ∧ (∀ b, b ≠ c.name → contentInForce t.cfg b = contentInForce s.cfg b)
                 ∧ (c.name ∈ t.store.waiting ∨ t.store.writing = some c)
                 ∧ t.mail.raised.getLast? = some (.stager, .settingsApplied c.name)
                 ∧ t.cab.flags.settingsApplied = true)
    ∧ (∀ (s : State) (c : BlockContent), s.stage.fifo = [c] → mayApply s c.name = true →
         let t := judgeHead s
         let cleared := (∀ p, (t.oc.phase.get p).progress = 0 ∧ (t.oc.phase.get p).instCount = 0
             ∧ (t.oc.phase.get p).sets = 0 ∧ (t.oc.phase.get p).state = (s.oc.phase.get p).state)
           ∧ t.oc.ground.progress = 0 ∧ t.oc.ground.instCount = 0 ∧ t.oc.ground.sets = 0
           ∧ t.oc.hot = s.oc.hot ∧ t.oc.armed = s.oc.armed
         let inRest := fun (p : Pole) => (s.seq.recs.get p).state = .rest
         let inLockout := fun (p : Pole) => (s.seq.recs.get p).state = .lockout
         let high := max (s.seq.recs.a.shot) (max s.seq.recs.b.shot s.seq.recs.c.shot)
         (∀ n x, c = .curve n x → cleared)
           ∧ (∀ new, c = .protection new → cleared
               ∧ (∀ p, (t.seq.recs.get p).lockOps =
                   if closingBlock s.seq.summary then 1 else new.opsToLockout)
               ∧ (s.cfg.prot.tripMode = .ganged ∨ new.tripMode = .single → ∀ p,
                   (t.seq.recs.get p).state = (s.seq.recs.get p).state
                     ∧ (t.seq.recs.get p).shot = (s.seq.recs.get p).shot)
               ∧ (s.cfg.prot.tripMode = .single → new.tripMode = .ganged → ∀ p,
                   (t.seq.recs.get p).shot = high
                     ∧ (∀ q, (t.seq.recs.get q).state = (t.seq.recs.get p).state)
                     ∧ ((∃ q, inLockout q) → (t.seq.recs.get p).state = .lockout)
                     ∧ ((∀ q, inRest q ∨ (s.seq.recs.get q).state = .timing) → (∃ q, ¬ inRest q) →
                         (t.seq.recs.get p).state = .timing)
                     ∧ ((∀ q, inRest q) ∨ (∀ q, inLockout q) →
                         (t.seq.recs.get p).state = (s.seq.recs.get p).state)
                     ∧ ((∀ q, inRest q ∨ inLockout q) → (∃ q, inRest q) → (∃ q, inLockout q) →
                         (∃ shot last, (.sequence, .lockout
                               (polesWhere s fun r => decide (r.state = .rest)) .threePole shot last none)
                                 ∈ t.mail.raised)
                           ∧ (inRest p → (t.seq.recs.get p).cause = some .threePole)
                           ∧ .trip (polesWhere s fun r => decide (r.state = .rest)) .threePole
                               ∈ t.mail.requests)))
           ∧ (∀ new, c = .battery new →
               (s.meas.delivered = true → t.bat.targets = some (targetsOf new s.meas.averages))
                 ∧ (s.bat.charger = .absorb →
                     (s.elapsed < s.bat.absorbEntry + new.absorbMin * 60000 →
                         t.bat.charger = .absorb
                           ∧ t.bat.absorbTimer = some (s.bat.absorbEntry + new.absorbMin * 60000))
                       ∧ (s.bat.absorbEntry + new.absorbMin * 60000 ≤ s.elapsed →
                           t.bat.charger = .float ∨ t.bat.charger = .testRest))
                 ∧ (new.testPeriod = s.cfg.battery.testPeriod → t.bat.testTimer = s.bat.testTimer)
                 ∧ (new.testPeriod ≠ s.cfg.battery.testPeriod → new.testPeriod ≠ 0 →
                     t.bat.testTimer = some (s.elapsed + new.testPeriod * 3600000)
                       ∧ t.bat.retries = s.bat.retries)
                 ∧ (new.testPeriod ≠ s.cfg.battery.testPeriod → new.testPeriod = 0 →
                     t.bat.testTimer = none ∧ t.bat.retries = 0
                       ∧ (s.bat.testState = .retryWait → t.bat.testState = .idle ∧ t.bat.retryTimer = none)
                       ∧ (s.bat.testState = .waiting → s.bat.testKind = some .scheduled →
                           t.bat.testState = .idle
                             ∧ ∃ r, t.bat.lastTest = some r ∧ r.verdict = .notRun
                               ∧ (.battery, .batteryTest r) ∈ t.mail.raised)))
           ∧ (∀ new, c = .radio new → t.rad.credit ≤ new.cap
               ∧ t.rad.statusTimer =
                   if new.statusPeriod = s.cfg.radio.statusPeriod then s.rad.statusTimer
                   else if new.statusPeriod = 0 then none
                   else some (s.elapsed + new.statusPeriod * 1000))
           ∧ (∀ new, c = .capture new → t.cap.nextId = s.cap.nextId
               ∧ (new.segments = s.cfg.capture.segments → t.cap = s.cap)
               ∧ (new.segments ≠ s.cfg.capture.segments → 0 < new.segments →
                   t.cap.cursor = none ∧ t.cap.segments =
                     ({ state := .recording, recorded := 0, ring := [], first := s.cap.lastSet + 1,
                        capture := none } : Segment)
                       :: List.replicate (new.segments - 1)
                           { state := .free, recorded := 0, ring := [], first := 0, capture := none })))
    ∧ (∀ (s : State) (c d : BlockContent), s.stage.fifo = [c, d] → c.name ≠ d.name →
         mayApply s c.name = true →
         let t := judgeHead s
         contentInForce t.cfg c.name = c
           ∧ (.stager, .settingsApplied c.name) ∈ t.mail.raised ∧ t.cab.flags.settingsApplied = true
           ∧ (mayApply s d.name = true →
               t.stage = { s.stage with fifo := [] } ∧ contentInForce t.cfg d.name = d
                 ∧ t.mail.raised.getLast? = some (.stager, .settingsApplied d.name))
           ∧ (mayApply s d.name = false →
               t.stage = { s.stage with fifo := [d] }
                 ∧ contentInForce t.cfg d.name = contentInForce s.cfg d.name
                 ∧ t.mail.raised.getLast? = some (.stager, .settingsApplied c.name)))
    ∧ (∀ (tag block curve : Byte) (s : State), Ready s →
         (blockOf block curve = none →
             exec (.settingsRead tag block curve) s = .next (replied 8#8 tag .badIndex .nothing s))
           ∧ (∀ b, blockOf block curve = some b →
               ((∀ c ∈ s.stage.fifo, c.name ≠ b) →
                   exec (.settingsRead tag block curve) s
                     = .next (replied 8#8 tag .ok (.settings false (contentInForce s.cfg b)) s))
                 ∧ ∀ before c after, s.stage.fifo = before ++ c :: after → c.name = b →
                     (∀ x ∈ before, x.name ≠ b) →
                     exec (.settingsRead tag block curve) s
                       = .next (replied 8#8 tag .ok (.settings true c) s))
           ∧ (∃ lines, exec (.stageGet tag) s = .next (replied 9#8 tag .ok (.stage lines) s)
               ∧ lines.map StageLine.block = s.stage.fifo.map BlockContent.name
               ∧ ∀ l ∈ lines, (l.holds = true ↔
                   l.block = .roster ∨ (l.block = .battery ∧ s.stage.testRunning = false)
                     ∨ (l.block = .radio ∧ s.stage.transmitting = false)
                     ∨ ((l.block = .protection ∨ l.block = .capture ∨ ∃ n, l.block = .curve n)
                         ∧ s.stage.atRest = true)))
           ∧ exec (.stageDiscard tag) s = .next (replied 10#8 tag .ok (.discarded s.stage.fifo.length)
               { s with stage := { s.stage with fifo := [] } }))

/-! ## Frames, encodings and invariants -/

/-- Frames: what each of these commands may change, the rest of the part staying as it is. The sequence
controller's change its own state, the capture unit by a trigger and its notices; the actuator and energy
unit's its own state, its notices and what a request for a retained write marks in the tag table and the
owed replies, a withdrawal the trips in hand and the waiting retries too; the battery manager's its own
state and its notices; the radio's timers and results the radio and the event queue, and their notices; a
record's arrival the queue, the radio, the link and what a rewrite marks; the end of a retained write the
marks, reports and owed replies, dropping the entries marked LEFT and adding SYSTEM_HOLD at most; a trip or
close command the sequence controller, the queue, and the link or the radio; the reads of a start, a
settings write and a stager's notice leave what the clauses name. -/
def Obligations.BlocksChangeTheirOwnState : Prop :=
  ∀ (s t : State) (ps : PoleSet) (p : Pole) (c : Instr), exec c s = .next t →
    let bare := fun (u : State) => u.tags.table.map fun e => { e with mark := .none }
    let owed := fun (l : List OwedWrite) => l.map OwedWrite.request
    let later := fun (l : List OwedWrite) => owed (l.filter fun w => !w.covered)
    let told := fun (e : TagEntry) => { e with mark := .none, retained := false, reported := false }
    let hold : TagEntry :=
      { kind := .systemHold, crew := none, source := .internal, placedAt := s.clock, retained := false,
        reported := false, removal := none, mark := .none, replyTo := .nobody }
    (c ∈ [Instr.evaluationResult, .grantNotice, .strokeResult, .closeRefusal, .deadTimeExpiry ps,
          .closeWaitExpiry ps, .sequenceReset ps, .sequenceTagInForce, .sequenceTagRemoved,
          .sequenceLeverChange, .sequencePoleChange] →
        t = { s with seq := t.seq, mail := t.mail, cap := t.cap, free := t.free })
      ∧ (c ∈ [Instr.tripRequestArrival, .closeRequestArrival, .strokePoleChange, .strokeTimeout,
            .settleTimeExpiry, .energyFail p, .strokeLeverChange, .energyTagSignal] →
          t = { s with
            en := t.en, mail := t.mail, ret := t.ret,
            tags := { s.tags with table := t.tags.table }, meas := { s.meas with owed := t.meas.owed } }
            ∧ bare t = bare s ∧ owed t.meas.owed = owed s.meas.owed ∧ owed t.en.owed = owed s.en.owed)
      ∧ (c = .requestWithdrawal →
          t = { s with
            en := t.en, mail := t.mail, free := t.free,
            seq := { s.seq with recs := t.seq.recs, retries := t.seq.retries } }
            ∧ ∀ p, t.seq.recs.get p = { s.seq.recs.get p with
                trip := (t.seq.recs.get p).trip, capture := (t.seq.recs.get p).capture })
      ∧ (c ∈ [Instr.batteryTestTimer, .restTimerExpiry, .loadTimerExpiry, .retryTimerExpiry,
            .absorbTimerExpiry, .batteryRestNotice, .bankFullNotice, .crewVisitWindowExpiry] →
          t = { s with bat := t.bat, mail := t.mail })
      ∧ (c ∈ [Instr.modemTimeout, .recoveryTimerExpiry, .readyWaitExpiry, .modemPermissionChange,
            .refillTimer] →
          t = { s with rad := t.rad, eq := t.eq, mail := t.mail })
      ∧ (∀ source, c = .recordArrival source →
          t = { s with
            eq := t.eq, rad := t.rad, cab := t.cab, ret := t.ret, mail := t.mail,
            tags := { s.tags with table := t.tags.table }, meas := { s.meas with owed := t.meas.owed },
            en := { s.en with owed := t.en.owed } }
            ∧ bare t = bare s ∧ owed t.meas.owed = owed s.meas.owed ∧ owed t.en.owed = owed s.en.owed)
      ∧ (∀ (tag set : Byte), c ∈ [Instr.poleTrip tag set, .poleClose tag set] →
          t = { s with seq := t.seq, eq := t.eq, cab := t.cab, mail := t.mail, free := t.free })
      ∧ (∀ (number set : Byte), c ∈ [Instr.tripCommand number set, .closeCommand number set] →
          t = { s with seq := t.seq, eq := t.eq, rad := t.rad, mail := t.mail, free := t.free })
      ∧ (∀ (tag : Byte) (body : List Byte) (crc number : Half),
          c ∈ [Instr.txResult tag body crc, .ackWaitExpiry number] →
          t = { s with rad := t.rad, eq := t.eq, mail := t.mail })
      ∧ (∀ fault, c = .retainedWriteComplete fault →
          t = { s with
            ret := t.ret, tags := t.tags, opt := t.opt, cab := t.cab, rad := t.rad, eq := t.eq,
            mail := t.mail, free := t.free, meas := { s.meas with owed := t.meas.owed },
            en := { s.en with owed := t.en.owed } }
            ∧ (s.ret.writing = none → t = s)
            ∧ (s.ret.writing ≠ none →
                later s.meas.owed = owed t.meas.owed ∧ later s.en.owed = owed t.en.owed
                  ∧ ∃ placed : List TagEntry, t.tags.table.map told
                      = (s.tags.table.filter fun e => decide (e.mark ≠ .left)).map told ++ placed
                    ∧ (placed = [] ∧ t.tags.holdPending = s.tags.holdPending
                      ∨ placed = [hold] ∧ s.tags.holdPending = true ∧ t.tags.holdPending = false)))
      ∧ (c = .startUpReads →
          t.power = s.power ∧ t.cause = s.cause ∧ t.elapsed = s.elapsed ∧ t.clock = s.clock
            ∧ t.opt = s.opt ∧ t.stage = s.stage ∧ t.cab = s.cab)
      ∧ (∀ (tag block curve : Byte) (content : List Byte) (source : NoticeSource),
          c = .settingsWrite tag block curve content ∨ c = .stagerNotice source →
          t.power = s.power ∧ t.elapsed = s.elapsed ∧ t.clock = s.clock ∧ t.meas = s.meas
            ∧ t.tags = s.tags ∧ t.ret = s.ret ∧ t.opt = s.opt)

/-- R170, section 12.2: a request frame, as bytes that find no frame open, is the request that its kind and
body spell, for every request and every value of its fields. -/
def Obligations.RequestFramesSpellRequests : Prop :=
  ∀ (tag x y : Byte) (h k : Half) (w : Wide) (content : List Byte) (s : State),
    s.power = .running → s.cab.openBytes = [] → content.length ≤ 238 →
    let half := fun (v : Half) => leBytes 2 v.toNat
    let wide := fun (v : Wide) => leBytes 4 v.toNat
    let closed := { s with cab := { s.cab with lastByte := s.elapsed } }
    ∀ (kind : Byte) (body : List Byte) (c : Instr), (kind, body, c) ∈
      [(1#8, [], Instr.statusGet tag), (2#8, [], .statusClear tag), (3#8, [x], .eventFetch tag x),
        (4#8, [], .attnGet tag), (5#8, [x], .attnClear tag x), (6#8, [x], .attnMask tag x),
        (7#8, x :: y :: content, .settingsWrite tag x y content), (8#8, [x, y], .settingsRead tag x y),
        (9#8, [], .stageGet tag), (10#8, [], .stageDiscard tag),
        (11#8, x :: half h, .tagPlace tag x h), (12#8, x :: half h, .tagRemove tag x h),
        (13#8, [], .tagList tag), (14#8, [x], .poleTrip tag x), (15#8, [x], .poleClose tag x),
        (16#8, [x], .poleFailClear tag x), (17#8, wide w ++ half h, .timeSet tag w h),
        (18#8, [], .counterRead tag), (19#8, x :: wide w, .counterSet tag x w),
        (20#8, [], .batteryTestStart tag), (21#8, [], .batteryResultGet tag), (22#8, [], .captureList tag),
        (23#8, half h ++ half k, .captureRead tag h k), (24#8, [], .captureReadNext tag),
        (25#8, half h, .captureRelease tag h), (26#8, [0#8], .blockRestartRadio tag),
        (26#8, [1#8], .blockRestartOptical tag), (26#8, [2#8], .blockRestartCapture tag),
        (26#8, [3#8], .blockRestartBatteryTest tag)] →
      exec (.requestFrame (frameBytes kind tag body)) s = exec c closed
        ∧ ∃ t, exec (.requestFrame (frameBytes kind tag body)) s = .next t

/-- R94, R96, section 12.5: six bytes that find no token frame open and end in their CRC-8 are the token frame
of their action; with another action the frame is answered BAD_KIND, and with another CRC it is dropped.

R155, R156, section 12.3: an RX_PACKET whose packet is whole and comes from the master station to this
part is the command that its payload spells, which answers a next state; a kind that is not listed is
answered BAD_KIND, and a body whose length does not suit its kind BAD_LENGTH, in the reply slot. A packet whose
CRC does not match, or for another station, is ignored, and so is a message of the modem with another CRC.

That an open token frame older than 20 ms is dropped at the next byte is the model's reading (log entry
52). -/
def Obligations.TokenFramesAndPacketsSpellCommands : Prop :=
  (∀ (crew : Half) (action number crc : Byte) (s : State), s.power = .running → s.readsDone = true →
     s.opt.openBytes = [] ∨ s.opt.lastByte + 20 < s.elapsed →
     let fields := leBytes 2 crew.toNat ++ [action, number]
     let frame := 0x5A#8 :: fields ++ [crc]
     let closed := { s with opt := { s.opt with openBytes := [], lastByte := s.elapsed } }
     (crc = crc8 fields → ∀ c, (action, c) ∈
         [(0#8, Instr.placeHotLine crew number), (1#8, .placeDoNotClose crew number),
           (2#8, .removeHotLine crew number), (3#8, .removeDoNotClose crew number),
           (4#8, .removeSystemHold crew number), (5#8, .query crew number)] →
         exec (.tokenFrame frame) s = exec c closed ∧ ∃ t, exec (.tokenFrame frame) s = .next t)
       ∧ (crc = crc8 fields → 6 ≤ action.toNat → s.opt.buffer = [] → s.opt.sending = none →
           ∃ t, exec (.tokenFrame frame) s = .next t ∧ t.tags = s.tags
             ∧ t.opt.sending = some
               { crew := crew, action := action, number := number, result := .badKind,
                 count := s.tags.table.length, hold := s.tags.holdPending, lines := none })
       ∧ (crc ≠ crc8 fields → exec (.tokenFrame frame) s = .next closed))
    ∧ (∀ (tag number set : Byte) (own master : Nat) (mid numbers : List Byte) (w : Wide) (h : Half)
         (s : State), s.power = .running → mid.length = 10 → own < 65536 → master < 65536 →
         numbers.length ≤ 198 →
         let packet := fun (payload : List Byte) =>
           let p := leBytes 2 own ++ leBytes 2 master ++ mid ++ payload
           p ++ leBytes 2 (crc16 p).toNat
         let received := fun (body : List Byte) => exec (.rxPacket tag body
           (crc16 (BitVec.ofNat 8 body.length :: 0x42#8 :: tag :: body))) s
         let time := leBytes 4 w.toNat ++ leBytes 2 h.toNat
         (own = s.cfg.radio.own → master = s.cfg.radio.master →
             (∀ kind body c, (kind, body, c) ∈
                 [(0#8, numbers, Instr.ack number numbers), (1#8, [], .poll number),
                   (2#8, [set], .tripCommand number set), (3#8, [set], .closeCommand number set),
                   (4#8, [], .blockSet number), (5#8, [], .blockClear number),
                   (6#8, time, .timeSync number w h), (7#8, [], .tagQuery number)] →
                 received (packet (kind :: number :: body)) = exec c s
                   ∧ ∃ t, received (packet (kind :: number :: body)) = .next t)
               ∧ ∀ kind : Byte, 8 ≤ kind.toNat → Hearing s →
                   received (packet (kind :: number :: numbers))
                     = .next (judgeSend (withSlot kind number .badKind none s)))
           ∧ (own = s.cfg.radio.own → master = s.cfg.radio.master → Hearing s → ∀ kind : Byte,
               (kind ∈ [1#8, 4#8, 5#8, 7#8] ∧ numbers.length ≠ 0)
                 ∨ (kind ∈ [2#8, 3#8] ∧ numbers.length ≠ 1) ∨ (kind = 6#8 ∧ numbers.length ≠ 6)
                 ∨ (kind = 0#8 ∧ (numbers.length % 2 = 1 ∨ numbers.length = 0 ∨ 16 < numbers.length)) →
               received (packet (kind :: number :: numbers))
                 = .next (judgeSend (withSlot kind number .badLength none s)))
           ∧ (∀ crc : Half, crc ≠ crc16 (leBytes 2 own ++ leBytes 2 master ++ mid ++ numbers) →
               received (leBytes 2 own ++ leBytes 2 master ++ mid ++ numbers ++ leBytes 2 crc.toNat)
                 = .next s)
           ∧ (∀ (body : List Byte) (crc : Half),
               crc ≠ crc16 (BitVec.ofNat 8 body.length :: 0x42#8 :: tag :: body) →
               exec (.rxPacket tag body crc) s = .next s)
           ∧ (own ≠ s.cfg.radio.own ∨ master ≠ s.cfg.radio.master →
               received (packet (number :: set :: numbers)) = .next s))

/-- R16 to R19, R62, R79, R105, R158, R167, section 12.6: a content suits its block by its length alone: 88
bytes for PROTECTION, 17 for BATTERY, 21 for RADIO, 3 for CAPTURE, one and six for each point counted for a
CURVE, one and three for each crew counted for the ROSTER, the count being the first byte. The bytes of a
settings block in range have the length of their block and pass the check of their block, which reads the
block back; a block that passes the check is in range.

R175, section 12.6: a block of the right length that fails its check is refused at the index of its first
field in error: no field before it is out of range, by its own range or against the fields before it, and
that field is. -/
def Obligations.SettingsBlocksReadBack : Prop :=
  (∀ (cfg : InForce) (fifo : List BlockContent) (b : BlockName) (c : BlockContent) (bytes : List Byte),
     let filled := curveFilled cfg fifo
     let named := curveNamed cfg fifo
     let count := (bytes.headD 0#8).toNat
     (lengthSuits b bytes = true ↔ bytes.length = match b with
         | .protection => 88
         | .curve _ => 1 + 6 * count
         | .battery => 17
         | .radio => 21
         | .roster => 1 + 3 * count
         | .capture => 3)
       ∧ (c.inRange filled named = true →
         lengthSuits c.name c.bytes = true ∧ checkBlock cfg fifo c.name c.bytes = .good c)
       ∧ (checkBlock cfg fifo b bytes = .good c → lengthSuits b bytes = true →
           c.name = b ∧ c.inRange filled named = true))
    ∧ (∀ (cfg : InForce) (fifo : List BlockContent) (b : BlockName) (bytes : List Byte) (i : Nat),
         lengthSuits b bytes = true →
         (checkBlock cfg fifo b bytes = .bad i ↔
           fieldWrong (curveFilled cfg fifo) (curveNamed cfg fifo) b bytes i = true
             ∧ ∀ j < i, fieldWrong (curveFilled cfg fifo) (curveNamed cfg fifo) b bytes j = false))

/-- R139, R135, R144: every step keeps the event queue sound, with at most 64 records, no two of one number,
at most one STATUS record, and a next event number that no record holds.

R63, R64, R72: every step keeps the stroke request queue sound. -/
def Obligations.QueuesStaySound : Prop :=
  (∀ s t : State, QueueSound s → step s = .next t → QueueSound t)
    ∧ (∀ s t : State, StrokeQueueSound s → step s = .next t → StrokeQueueSound t)

/-- R35, R37, R21, R28, R30, R31: every step keeps the sequence records and the overcurrent elements sound.

R12, R100, R149, R175, R106, R109, R112, R121, R124: every step keeps the time base within its ranges, the
credit at most the cap, the staging FIFO at most two blocks of two names, the test load on in LOADED alone,
a charger in BULK, ABSORB or FLOAT with its supply, and the valid marker clear while a retained write is in
flight.

R81, R83, R10, R161 to R163: every step keeps the capture memory, the tag table and the counters sound. The
reads of a start take the tag table and the counters from the chip, so for that one command what a valid
record holds is a premise. -/
def Obligations.PartStaysSound : Prop :=
  (∀ s t : State, step s = .next t →
     (RecordsSound s → RecordsSound t) ∧ (ElementsSound s → ElementsSound t))
    ∧ (∀ s t : State, step s = .next t →
         (ClockSound s → ClockSound t) ∧ (CreditSound s → CreditSound t) ∧ (StageSound s → StageSound t)
           ∧ (BatteryTestSound s → BatteryTestSound t)
           ∧ ((s.ret.writing.isSome = true → s.ret.chip.marker = false) →
               t.ret.writing.isSome = true → t.ret.chip.marker = false))
    ∧ (∀ s t : State, step s = .next t →
         (CaptureSound s → CaptureSound t)
           ∧ (TagsSound s → (s.pending.head? = some .startUpReads → ChipTagsSound s) → TagsSound t)
           ∧ (CountersSound s → (s.pending.head? = some .startUpReads → ChipCountersSound s) →
               CountersSound t))

/-- R65, R67, R71, R76: whatever the command, a close stroke that begins finds no tag and no pending hold that
blocks it, the lever NORMAL, the power state not HOLDOVER, no settle time running, and the bank at the level
of its drive set.

R86, R88: no command but the completion of a retained write that leaves the entry out, and a start or
stop of the part, takes a tag out of the table.

That the arbiter reads the lever and the tags as they stand is the model's reading (log entry 32); the
level for no poles is free (log entry 57). -/
def Obligations.ClosesBeginAndTagsLeaveSafely : Prop :=
  (∀ (s t : State) (k : Stroke), StageSound s → step s = .next t → s.en.stroke = none → t.en.stroke = some k →
     k.kind = .close →
     t.meas.inputs.leverTripped = false ∧ t.bat.power ≠ some .holdover ∧ t.tags.holdPending = false
       ∧ (∀ e ∈ t.tags.table, e.kind = .remoteBlock
           ∧ k.origin ≠ .protection ∧ k.origin ≠ .commandRadio)
       ∧ t.en.settle = none
       ∧ (match k.drive.card with
           | 0 => Config.levelOfNone
           | 1 => t.cfg.prot.close1
           | 2 => t.cfg.prot.close2
           | _ => t.cfg.prot.close3) ≤ t.en.bank)
    ∧ (∀ (c : Instr) (s t : State) (e : TagEntry), exec c s = .next t → e ∈ s.tags.table →
         (∀ x ∈ t.tags.table, x.kind = e.kind → x.crew ≠ e.crew) →
         (∃ fault, c = .retainedWriteComplete fault ∧ ∃ x ∈ s.tags.table, x.kind = e.kind ∧ x.crew = e.crew
             ∧ x.mark = .left)
           ∨ c.startsOrStops = true ∨ (c = .startUpReads ∧ s.readsDone = false))
end

