-- ==== Sys2Proof/Laws/State.lean ====
section
/-! SUPPORT. What the shared updates of the state leave alone: for each field that an update does not touch,
the field reads after as before. A proof uses these through `simp` and unfolds no update. -/

namespace Sys2Proof.Machine

/-! ## Machine/Ops -/

@[simp] theorem raise_frame (source : RecordSource) (body : EventBody) (s : State) :
    (raise source body s).pending = s.pending ∧ (raise source body s).power = s.power ∧
    (raise source body s).readsDone = s.readsDone ∧ (raise source body s).clock = s.clock ∧
    (raise source body s).meas = s.meas ∧ (raise source body s).cfg = s.cfg ∧
    (raise source body s).seq = s.seq ∧ (raise source body s).en = s.en ∧
    (raise source body s).tags = s.tags ∧ (raise source body s).bat = s.bat ∧
    (raise source body s).stage = s.stage ∧ (raise source body s).eq = s.eq ∧
    (raise source body s).rad = s.rad ∧ (raise source body s).cap = s.cap := by
  unfold raise; try dsimp only
  all_goals simp

@[simp] theorem countDraw_frame (s : State) :
    (countDraw s).pending = s.pending ∧ (countDraw s).power = s.power ∧
    (countDraw s).readsDone = s.readsDone ∧ (countDraw s).clock = s.clock ∧
    (countDraw s).meas = s.meas ∧ (countDraw s).cfg = s.cfg ∧ (countDraw s).seq = s.seq ∧
    (countDraw s).en = s.en ∧ (countDraw s).tags = s.tags ∧ (countDraw s).bat = s.bat ∧
    (countDraw s).stage = s.stage ∧ (countDraw s).eq = s.eq ∧ (countDraw s).rad = s.rad ∧
    (countDraw s).cap = s.cap := by
  unfold countDraw; try dsimp only
  all_goals simp

@[simp] theorem agreed_frame {α : Type} [DecidableEq α] (l : List α) (s : State) :
    (agreed l s).2.pending = s.pending ∧ (agreed l s).2.power = s.power ∧
    (agreed l s).2.readsDone = s.readsDone ∧ (agreed l s).2.clock = s.clock ∧
    (agreed l s).2.meas = s.meas ∧ (agreed l s).2.cfg = s.cfg ∧ (agreed l s).2.seq = s.seq ∧
    (agreed l s).2.en = s.en ∧ (agreed l s).2.tags = s.tags ∧ (agreed l s).2.bat = s.bat ∧
    (agreed l s).2.stage = s.stage ∧ (agreed l s).2.eq = s.eq ∧ (agreed l s).2.rad = s.rad ∧
    (agreed l s).2.cap = s.cap := by
  unfold agreed; split <;> simp

@[simp] theorem formReply_frame (kind tag : Byte) (code : ResultCode) (content : ReplyContent) (s : State) :
    (formReply kind tag code content s).pending = s.pending ∧
    (formReply kind tag code content s).power = s.power ∧
    (formReply kind tag code content s).readsDone = s.readsDone ∧
    (formReply kind tag code content s).clock = s.clock ∧
    (formReply kind tag code content s).meas = s.meas ∧
    (formReply kind tag code content s).cfg = s.cfg ∧
    (formReply kind tag code content s).seq = s.seq ∧
    (formReply kind tag code content s).en = s.en ∧
    (formReply kind tag code content s).tags = s.tags ∧
    (formReply kind tag code content s).bat = s.bat ∧
    (formReply kind tag code content s).stage = s.stage ∧
    (formReply kind tag code content s).eq = s.eq ∧
    (formReply kind tag code content s).rad = s.rad ∧
    (formReply kind tag code content s).cap = s.cap := by
  unfold formReply; try dsimp only
  all_goals simp

@[simp] theorem answer_frame (request : Nat) (code : ResultCode) (content : ReplyContent) (s : State) :
    (answer request code content s).pending = s.pending ∧
    (answer request code content s).power = s.power ∧
    (answer request code content s).readsDone = s.readsDone ∧
    (answer request code content s).clock = s.clock ∧
    (answer request code content s).meas = s.meas ∧ (answer request code content s).cfg = s.cfg ∧
    (answer request code content s).seq = s.seq ∧ (answer request code content s).en = s.en ∧
    (answer request code content s).tags = s.tags ∧ (answer request code content s).bat = s.bat ∧
    (answer request code content s).stage = s.stage ∧ (answer request code content s).eq = s.eq ∧
    (answer request code content s).rad = s.rad ∧ (answer request code content s).cap = s.cap := by
  unfold answer; try dsimp only
  repeat' split
  all_goals simp

@[simp] theorem answerCode_frame (request : Nat) (code : ResultCode) (s : State) :
    (answerCode request code s).pending = s.pending ∧ (answerCode request code s).power = s.power ∧
    (answerCode request code s).readsDone = s.readsDone ∧
    (answerCode request code s).clock = s.clock ∧ (answerCode request code s).meas = s.meas ∧
    (answerCode request code s).cfg = s.cfg ∧ (answerCode request code s).seq = s.seq ∧
    (answerCode request code s).en = s.en ∧ (answerCode request code s).tags = s.tags ∧
    (answerCode request code s).bat = s.bat ∧ (answerCode request code s).stage = s.stage ∧
    (answerCode request code s).eq = s.eq ∧ (answerCode request code s).rad = s.rad ∧
    (answerCode request code s).cap = s.cap := by
  unfold answerCode; try dsimp only
  all_goals simp

@[simp] theorem answerBadValue_frame (request : Nat) (index : Option Nat) (s : State) :
    (answerBadValue request index s).pending = s.pending ∧
    (answerBadValue request index s).power = s.power ∧
    (answerBadValue request index s).readsDone = s.readsDone ∧
    (answerBadValue request index s).clock = s.clock ∧
    (answerBadValue request index s).meas = s.meas ∧ (answerBadValue request index s).cfg = s.cfg ∧
    (answerBadValue request index s).seq = s.seq ∧ (answerBadValue request index s).en = s.en ∧
    (answerBadValue request index s).tags = s.tags ∧ (answerBadValue request index s).bat = s.bat ∧
    (answerBadValue request index s).stage = s.stage ∧ (answerBadValue request index s).eq = s.eq ∧
    (answerBadValue request index s).rad = s.rad ∧ (answerBadValue request index s).cap = s.cap := by
  unfold answerBadValue; try dsimp only
  all_goals simp

@[simp] theorem answerResult_frame (id : Nat) (code : ResultCode) (s : State) :
    (answerResult id code s).pending = s.pending ∧ (answerResult id code s).power = s.power ∧
    (answerResult id code s).readsDone = s.readsDone ∧ (answerResult id code s).clock = s.clock ∧
    (answerResult id code s).meas = s.meas ∧ (answerResult id code s).cfg = s.cfg ∧
    (answerResult id code s).seq = s.seq ∧ (answerResult id code s).en = s.en ∧
    (answerResult id code s).tags = s.tags ∧ (answerResult id code s).bat = s.bat ∧
    (answerResult id code s).stage = s.stage ∧ (answerResult id code s).eq = s.eq ∧
    (answerResult id code s).rad = s.rad ∧ (answerResult id code s).cap = s.cap := by
  unfold answerResult; try dsimp only
  repeat' split
  all_goals simp

@[simp] theorem endFetchEmpty_frame (s : State) :
    (endFetchEmpty s).pending = s.pending ∧ (endFetchEmpty s).power = s.power ∧
    (endFetchEmpty s).readsDone = s.readsDone ∧ (endFetchEmpty s).clock = s.clock ∧
    (endFetchEmpty s).meas = s.meas ∧ (endFetchEmpty s).cfg = s.cfg ∧
    (endFetchEmpty s).seq = s.seq ∧ (endFetchEmpty s).en = s.en ∧ (endFetchEmpty s).tags = s.tags ∧
    (endFetchEmpty s).bat = s.bat ∧ (endFetchEmpty s).stage = s.stage ∧
    (endFetchEmpty s).rad = s.rad ∧ (endFetchEmpty s).cap = s.cap := by
  unfold endFetchEmpty; try dsimp only
  repeat' split
  all_goals simp


/-! ## Machine/Flags -/

@[simp] theorem setFlags_frame (f : AttnFlags → AttnFlags) (s : State) :
    (setFlags f s).pending = s.pending ∧ (setFlags f s).power = s.power ∧
    (setFlags f s).readsDone = s.readsDone ∧ (setFlags f s).clock = s.clock ∧
    (setFlags f s).meas = s.meas ∧ (setFlags f s).cfg = s.cfg ∧ (setFlags f s).seq = s.seq ∧
    (setFlags f s).en = s.en ∧ (setFlags f s).tags = s.tags ∧ (setFlags f s).bat = s.bat ∧
    (setFlags f s).stage = s.stage ∧ (setFlags f s).eq = s.eq ∧ (setFlags f s).rad = s.rad ∧
    (setFlags f s).cap = s.cap := by
  unfold setFlags; try dsimp only
  all_goals simp

@[simp] theorem flagEventPending_frame (s : State) :
    (flagEventPending s).pending = s.pending ∧ (flagEventPending s).power = s.power ∧
    (flagEventPending s).readsDone = s.readsDone ∧ (flagEventPending s).clock = s.clock ∧
    (flagEventPending s).meas = s.meas ∧ (flagEventPending s).cfg = s.cfg ∧
    (flagEventPending s).seq = s.seq ∧ (flagEventPending s).en = s.en ∧
    (flagEventPending s).tags = s.tags ∧ (flagEventPending s).bat = s.bat ∧
    (flagEventPending s).stage = s.stage ∧ (flagEventPending s).eq = s.eq ∧
    (flagEventPending s).rad = s.rad ∧ (flagEventPending s).cap = s.cap := by
  unfold flagEventPending; try dsimp only
  all_goals simp

@[simp] theorem flagQueueHigh_frame (s : State) :
    (flagQueueHigh s).pending = s.pending ∧ (flagQueueHigh s).power = s.power ∧
    (flagQueueHigh s).readsDone = s.readsDone ∧ (flagQueueHigh s).clock = s.clock ∧
    (flagQueueHigh s).meas = s.meas ∧ (flagQueueHigh s).cfg = s.cfg ∧
    (flagQueueHigh s).seq = s.seq ∧ (flagQueueHigh s).en = s.en ∧ (flagQueueHigh s).tags = s.tags ∧
    (flagQueueHigh s).bat = s.bat ∧ (flagQueueHigh s).stage = s.stage ∧
    (flagQueueHigh s).eq = s.eq ∧ (flagQueueHigh s).rad = s.rad ∧ (flagQueueHigh s).cap = s.cap := by
  unfold flagQueueHigh; try dsimp only
  all_goals simp

@[simp] theorem flagSettingsApplied_frame (s : State) :
    (flagSettingsApplied s).pending = s.pending ∧ (flagSettingsApplied s).power = s.power ∧
    (flagSettingsApplied s).readsDone = s.readsDone ∧ (flagSettingsApplied s).clock = s.clock ∧
    (flagSettingsApplied s).meas = s.meas ∧ (flagSettingsApplied s).cfg = s.cfg ∧
    (flagSettingsApplied s).seq = s.seq ∧ (flagSettingsApplied s).en = s.en ∧
    (flagSettingsApplied s).tags = s.tags ∧ (flagSettingsApplied s).bat = s.bat ∧
    (flagSettingsApplied s).stage = s.stage ∧ (flagSettingsApplied s).eq = s.eq ∧
    (flagSettingsApplied s).rad = s.rad ∧ (flagSettingsApplied s).cap = s.cap := by
  unfold flagSettingsApplied; try dsimp only
  all_goals simp

@[simp] theorem flagCaptureReady_frame (s : State) :
    (flagCaptureReady s).pending = s.pending ∧ (flagCaptureReady s).power = s.power ∧
    (flagCaptureReady s).readsDone = s.readsDone ∧ (flagCaptureReady s).clock = s.clock ∧
    (flagCaptureReady s).meas = s.meas ∧ (flagCaptureReady s).cfg = s.cfg ∧
    (flagCaptureReady s).seq = s.seq ∧ (flagCaptureReady s).en = s.en ∧
    (flagCaptureReady s).tags = s.tags ∧ (flagCaptureReady s).bat = s.bat ∧
    (flagCaptureReady s).stage = s.stage ∧ (flagCaptureReady s).eq = s.eq ∧
    (flagCaptureReady s).rad = s.rad ∧ (flagCaptureReady s).cap = s.cap := by
  unfold flagCaptureReady; try dsimp only
  all_goals simp

@[simp] theorem flagLinkError_frame (s : State) :
    (flagLinkError s).pending = s.pending ∧ (flagLinkError s).power = s.power ∧
    (flagLinkError s).readsDone = s.readsDone ∧ (flagLinkError s).clock = s.clock ∧
    (flagLinkError s).meas = s.meas ∧ (flagLinkError s).cfg = s.cfg ∧
    (flagLinkError s).seq = s.seq ∧ (flagLinkError s).en = s.en ∧ (flagLinkError s).tags = s.tags ∧
    (flagLinkError s).bat = s.bat ∧ (flagLinkError s).stage = s.stage ∧
    (flagLinkError s).eq = s.eq ∧ (flagLinkError s).rad = s.rad ∧ (flagLinkError s).cap = s.cap := by
  unfold flagLinkError; try dsimp only
  all_goals simp

@[simp] theorem flagStoreFault_frame (s : State) :
    (flagStoreFault s).pending = s.pending ∧ (flagStoreFault s).power = s.power ∧
    (flagStoreFault s).readsDone = s.readsDone ∧ (flagStoreFault s).clock = s.clock ∧
    (flagStoreFault s).meas = s.meas ∧ (flagStoreFault s).cfg = s.cfg ∧
    (flagStoreFault s).seq = s.seq ∧ (flagStoreFault s).en = s.en ∧
    (flagStoreFault s).tags = s.tags ∧ (flagStoreFault s).bat = s.bat ∧
    (flagStoreFault s).stage = s.stage ∧ (flagStoreFault s).eq = s.eq ∧
    (flagStoreFault s).rad = s.rad ∧ (flagStoreFault s).cap = s.cap := by
  unfold flagStoreFault; try dsimp only
  all_goals simp

@[simp] theorem flagRestarted_frame (s : State) :
    (flagRestarted s).pending = s.pending ∧ (flagRestarted s).power = s.power ∧
    (flagRestarted s).readsDone = s.readsDone ∧ (flagRestarted s).clock = s.clock ∧
    (flagRestarted s).meas = s.meas ∧ (flagRestarted s).cfg = s.cfg ∧
    (flagRestarted s).seq = s.seq ∧ (flagRestarted s).en = s.en ∧ (flagRestarted s).tags = s.tags ∧
    (flagRestarted s).bat = s.bat ∧ (flagRestarted s).stage = s.stage ∧
    (flagRestarted s).eq = s.eq ∧ (flagRestarted s).rad = s.rad ∧ (flagRestarted s).cap = s.cap := by
  unfold flagRestarted; try dsimp only
  all_goals simp


/-! ## Machine/StoreOps -/

@[simp] theorem startRetainedWrite_frame (s : State) :
    (startRetainedWrite s).pending = s.pending ∧ (startRetainedWrite s).power = s.power ∧
    (startRetainedWrite s).readsDone = s.readsDone ∧ (startRetainedWrite s).clock = s.clock ∧
    (startRetainedWrite s).cfg = s.cfg ∧ (startRetainedWrite s).seq = s.seq ∧
    (startRetainedWrite s).bat = s.bat ∧ (startRetainedWrite s).stage = s.stage ∧
    (startRetainedWrite s).eq = s.eq ∧ (startRetainedWrite s).rad = s.rad ∧
    (startRetainedWrite s).cap = s.cap := by
  unfold startRetainedWrite; try dsimp only
  all_goals simp

@[simp] theorem requestRewrite_frame (s : State) :
    (requestRewrite s).pending = s.pending ∧ (requestRewrite s).power = s.power ∧
    (requestRewrite s).readsDone = s.readsDone ∧ (requestRewrite s).clock = s.clock ∧
    (requestRewrite s).cfg = s.cfg ∧ (requestRewrite s).seq = s.seq ∧
    (requestRewrite s).bat = s.bat ∧ (requestRewrite s).stage = s.stage ∧
    (requestRewrite s).eq = s.eq ∧ (requestRewrite s).rad = s.rad ∧ (requestRewrite s).cap = s.cap := by
  unfold requestRewrite; try dsimp only
  repeat' split
  all_goals simp

@[simp] theorem startSettingsWrite_frame (b : BlockName) (s : State) :
    (startSettingsWrite b s).pending = s.pending ∧ (startSettingsWrite b s).power = s.power ∧
    (startSettingsWrite b s).readsDone = s.readsDone ∧ (startSettingsWrite b s).clock = s.clock ∧
    (startSettingsWrite b s).meas = s.meas ∧ (startSettingsWrite b s).cfg = s.cfg ∧
    (startSettingsWrite b s).seq = s.seq ∧ (startSettingsWrite b s).en = s.en ∧
    (startSettingsWrite b s).tags = s.tags ∧ (startSettingsWrite b s).bat = s.bat ∧
    (startSettingsWrite b s).stage = s.stage ∧ (startSettingsWrite b s).eq = s.eq ∧
    (startSettingsWrite b s).rad = s.rad ∧ (startSettingsWrite b s).cap = s.cap := by
  unfold startSettingsWrite; try dsimp only
  all_goals simp

@[simp] theorem requestSettingsWrite_frame (b : BlockName) (s : State) :
    (requestSettingsWrite b s).pending = s.pending ∧ (requestSettingsWrite b s).power = s.power ∧
    (requestSettingsWrite b s).readsDone = s.readsDone ∧
    (requestSettingsWrite b s).clock = s.clock ∧ (requestSettingsWrite b s).meas = s.meas ∧
    (requestSettingsWrite b s).cfg = s.cfg ∧ (requestSettingsWrite b s).seq = s.seq ∧
    (requestSettingsWrite b s).en = s.en ∧ (requestSettingsWrite b s).tags = s.tags ∧
    (requestSettingsWrite b s).bat = s.bat ∧ (requestSettingsWrite b s).stage = s.stage ∧
    (requestSettingsWrite b s).eq = s.eq ∧ (requestSettingsWrite b s).rad = s.rad ∧
    (requestSettingsWrite b s).cap = s.cap := by
  unfold requestSettingsWrite; try dsimp only
  repeat' split
  all_goals simp

end Sys2Proof.Machine
end

