-- ==== Sys2Proof/Laws/QueueFrames.lean ====
section
/-! SUPPORT. What the operations of the event queue and of the sending half of the radio controller leave
alone. -/

namespace Sys2Proof.Machine

/-! ## Machine/SendOps -/

@[simp] theorem holdCredit_frame (s : State) :
    (holdCredit s).pending = s.pending ∧ (holdCredit s).power = s.power ∧
    (holdCredit s).readsDone = s.readsDone ∧ (holdCredit s).clock = s.clock ∧
    (holdCredit s).meas = s.meas ∧ (holdCredit s).cfg = s.cfg ∧ (holdCredit s).seq = s.seq ∧
    (holdCredit s).en = s.en ∧ (holdCredit s).tags = s.tags ∧ (holdCredit s).bat = s.bat ∧
    (holdCredit s).stage = s.stage ∧ (holdCredit s).eq = s.eq ∧ (holdCredit s).cap = s.cap := by
  unfold holdCredit; try dsimp only
  all_goals simp

@[simp] theorem startSend_frame (cost : Nat) (content : PacketContent) (records : Option (List Nat)) (s : State) :
    (startSend cost content records s).pending = s.pending ∧
    (startSend cost content records s).power = s.power ∧
    (startSend cost content records s).readsDone = s.readsDone ∧
    (startSend cost content records s).clock = s.clock ∧
    (startSend cost content records s).meas = s.meas ∧
    (startSend cost content records s).cfg = s.cfg ∧
    (startSend cost content records s).seq = s.seq ∧ (startSend cost content records s).en = s.en ∧
    (startSend cost content records s).tags = s.tags ∧
    (startSend cost content records s).bat = s.bat ∧
    (startSend cost content records s).stage = s.stage ∧
    (startSend cost content records s).cap = s.cap := by
  unfold startSend; try dsimp only
  all_goals simp

@[simp] theorem sendResult_frame (r : SlotResult) (s : State) :
    (sendResult r s).pending = s.pending ∧ (sendResult r s).power = s.power ∧
    (sendResult r s).readsDone = s.readsDone ∧ (sendResult r s).clock = s.clock ∧
    (sendResult r s).meas = s.meas ∧ (sendResult r s).cfg = s.cfg ∧ (sendResult r s).seq = s.seq ∧
    (sendResult r s).en = s.en ∧ (sendResult r s).tags = s.tags ∧ (sendResult r s).bat = s.bat ∧
    (sendResult r s).stage = s.stage ∧ (sendResult r s).cap = s.cap := by
  unfold sendResult; try dsimp only
  repeat' split
  all_goals simp

@[simp] theorem sendReports_frame (s : State) :
    (sendReports s).pending = s.pending ∧ (sendReports s).power = s.power ∧
    (sendReports s).readsDone = s.readsDone ∧ (sendReports s).clock = s.clock ∧
    (sendReports s).meas = s.meas ∧ (sendReports s).cfg = s.cfg ∧ (sendReports s).seq = s.seq ∧
    (sendReports s).en = s.en ∧ (sendReports s).tags = s.tags ∧ (sendReports s).bat = s.bat ∧
    (sendReports s).stage = s.stage ∧ (sendReports s).cap = s.cap := by
  unfold sendReports; try dsimp only
  repeat' split
  all_goals simp

@[simp] theorem judgeSend_frame (s : State) :
    (judgeSend s).pending = s.pending ∧ (judgeSend s).power = s.power ∧
    (judgeSend s).readsDone = s.readsDone ∧ (judgeSend s).clock = s.clock ∧
    (judgeSend s).meas = s.meas ∧ (judgeSend s).cfg = s.cfg ∧ (judgeSend s).seq = s.seq ∧
    (judgeSend s).en = s.en ∧ (judgeSend s).tags = s.tags ∧ (judgeSend s).bat = s.bat ∧
    (judgeSend s).stage = s.stage ∧ (judgeSend s).cap = s.cap := by
  unfold judgeSend; try dsimp only
  repeat' split
  all_goals simp

@[simp] theorem putSlot_frame (command number : Byte) (code : ResultCode) (tags : Option (Bool × List TagLine)) (s : State) :
    (putSlot command number code tags s).pending = s.pending ∧
    (putSlot command number code tags s).power = s.power ∧
    (putSlot command number code tags s).readsDone = s.readsDone ∧
    (putSlot command number code tags s).clock = s.clock ∧
    (putSlot command number code tags s).meas = s.meas ∧
    (putSlot command number code tags s).cfg = s.cfg ∧
    (putSlot command number code tags s).seq = s.seq ∧
    (putSlot command number code tags s).en = s.en ∧
    (putSlot command number code tags s).tags = s.tags ∧
    (putSlot command number code tags s).bat = s.bat ∧
    (putSlot command number code tags s).stage = s.stage ∧
    (putSlot command number code tags s).cap = s.cap := by
  unfold putSlot; try dsimp only
  all_goals simp


/-! ## Machine/QueueOps -/

@[simp] theorem judgeRemoval_frame (s : State) :
    (judgeRemoval s).pending = s.pending ∧ (judgeRemoval s).power = s.power ∧
    (judgeRemoval s).readsDone = s.readsDone ∧ (judgeRemoval s).clock = s.clock ∧
    (judgeRemoval s).meas = s.meas ∧ (judgeRemoval s).cfg = s.cfg ∧ (judgeRemoval s).seq = s.seq ∧
    (judgeRemoval s).en = s.en ∧ (judgeRemoval s).tags = s.tags ∧ (judgeRemoval s).bat = s.bat ∧
    (judgeRemoval s).stage = s.stage ∧ (judgeRemoval s).rad = s.rad ∧ (judgeRemoval s).cap = s.cap := by
  unfold judgeRemoval; try dsimp only
  repeat' split
  all_goals simp

@[simp] theorem changeRecord_frame (number : Nat) (f : EventRecord → EventRecord) (s : State) :
    (changeRecord number f s).pending = s.pending ∧ (changeRecord number f s).power = s.power ∧
    (changeRecord number f s).readsDone = s.readsDone ∧ (changeRecord number f s).clock = s.clock ∧
    (changeRecord number f s).meas = s.meas ∧ (changeRecord number f s).cfg = s.cfg ∧
    (changeRecord number f s).seq = s.seq ∧ (changeRecord number f s).en = s.en ∧
    (changeRecord number f s).tags = s.tags ∧ (changeRecord number f s).bat = s.bat ∧
    (changeRecord number f s).stage = s.stage ∧ (changeRecord number f s).rad = s.rad ∧
    (changeRecord number f s).cap = s.cap := by
  unfold changeRecord; try dsimp only
  all_goals simp

@[simp] theorem advanceNumber_frame (s : State) :
    (advanceNumber s).pending = s.pending ∧ (advanceNumber s).power = s.power ∧
    (advanceNumber s).readsDone = s.readsDone ∧ (advanceNumber s).clock = s.clock ∧
    (advanceNumber s).cfg = s.cfg ∧ (advanceNumber s).seq = s.seq ∧ (advanceNumber s).bat = s.bat ∧
    (advanceNumber s).stage = s.stage ∧ (advanceNumber s).rad = s.rad ∧
    (advanceNumber s).cap = s.cap := by
  unfold advanceNumber; try dsimp only
  repeat' split
  all_goals simp

@[simp] theorem passOver_frame (held : List Nat) (x : Nat) (s : State) :
    (passOver held x s).pending = s.pending ∧ (passOver held x s).power = s.power ∧
    (passOver held x s).readsDone = s.readsDone ∧ (passOver held x s).clock = s.clock ∧
    (passOver held x s).cfg = s.cfg ∧ (passOver held x s).seq = s.seq ∧
    (passOver held x s).bat = s.bat ∧ (passOver held x s).stage = s.stage ∧
    (passOver held x s).rad = s.rad ∧ (passOver held x s).cap = s.cap := by
  induction x generalizing s <;> unfold passOver <;> (repeat' split) <;> simp_all

@[simp] theorem advancePast_frame (s : State) :
    (advancePast s).pending = s.pending ∧ (advancePast s).power = s.power ∧
    (advancePast s).readsDone = s.readsDone ∧ (advancePast s).clock = s.clock ∧
    (advancePast s).cfg = s.cfg ∧ (advancePast s).seq = s.seq ∧ (advancePast s).bat = s.bat ∧
    (advancePast s).stage = s.stage ∧ (advancePast s).rad = s.rad ∧ (advancePast s).cap = s.cap := by
  unfold advancePast; try dsimp only
  all_goals simp

@[simp] theorem judgeHighWater_frame (s : State) :
    (judgeHighWater s).pending = s.pending ∧ (judgeHighWater s).power = s.power ∧
    (judgeHighWater s).readsDone = s.readsDone ∧ (judgeHighWater s).clock = s.clock ∧
    (judgeHighWater s).meas = s.meas ∧ (judgeHighWater s).cfg = s.cfg ∧
    (judgeHighWater s).seq = s.seq ∧ (judgeHighWater s).en = s.en ∧
    (judgeHighWater s).tags = s.tags ∧ (judgeHighWater s).bat = s.bat ∧
    (judgeHighWater s).stage = s.stage ∧ (judgeHighWater s).rad = s.rad ∧
    (judgeHighWater s).cap = s.cap := by
  unfold judgeHighWater; try dsimp only
  repeat' split
  all_goals simp

@[simp] theorem answerFetch_frame (r : EventRecord) (s : State) :
    (answerFetch r s).pending = s.pending ∧ (answerFetch r s).power = s.power ∧
    (answerFetch r s).readsDone = s.readsDone ∧ (answerFetch r s).clock = s.clock ∧
    (answerFetch r s).meas = s.meas ∧ (answerFetch r s).cfg = s.cfg ∧
    (answerFetch r s).seq = s.seq ∧ (answerFetch r s).en = s.en ∧ (answerFetch r s).tags = s.tags ∧
    (answerFetch r s).bat = s.bat ∧ (answerFetch r s).stage = s.stage ∧
    (answerFetch r s).rad = s.rad ∧ (answerFetch r s).cap = s.cap := by
  unfold answerFetch; try dsimp only
  repeat' split
  all_goals simp

@[simp] theorem makeRoom_frame (s : State) :
    (makeRoom s).pending = s.pending ∧ (makeRoom s).power = s.power ∧
    (makeRoom s).readsDone = s.readsDone ∧ (makeRoom s).clock = s.clock ∧
    (makeRoom s).meas = s.meas ∧ (makeRoom s).cfg = s.cfg ∧ (makeRoom s).seq = s.seq ∧
    (makeRoom s).en = s.en ∧ (makeRoom s).tags = s.tags ∧ (makeRoom s).bat = s.bat ∧
    (makeRoom s).stage = s.stage ∧ (makeRoom s).rad = s.rad ∧ (makeRoom s).cap = s.cap := by
  unfold makeRoom; try dsimp only
  repeat' split
  all_goals simp

@[simp] theorem enqueue_frame (r : EventRecord) (s : State) :
    (enqueue r s).pending = s.pending ∧ (enqueue r s).power = s.power ∧
    (enqueue r s).readsDone = s.readsDone ∧ (enqueue r s).clock = s.clock ∧
    (enqueue r s).cfg = s.cfg ∧ (enqueue r s).seq = s.seq ∧ (enqueue r s).bat = s.bat ∧
    (enqueue r s).stage = s.stage ∧ (enqueue r s).rad = s.rad ∧ (enqueue r s).cap = s.cap := by
  unfold enqueue; try dsimp only
  all_goals simp

@[simp] theorem noticeArrival_frame (r : EventRecord) (s : State) :
    (noticeArrival r s).pending = s.pending ∧ (noticeArrival r s).power = s.power ∧
    (noticeArrival r s).readsDone = s.readsDone ∧ (noticeArrival r s).clock = s.clock ∧
    (noticeArrival r s).meas = s.meas ∧ (noticeArrival r s).cfg = s.cfg ∧
    (noticeArrival r s).seq = s.seq ∧ (noticeArrival r s).en = s.en ∧
    (noticeArrival r s).tags = s.tags ∧ (noticeArrival r s).bat = s.bat ∧
    (noticeArrival r s).stage = s.stage ∧ (noticeArrival r s).cap = s.cap := by
  unfold noticeArrival; try dsimp only
  repeat' split
  all_goals simp

@[simp] theorem takeIn_frame (body : EventBody) (s : State) :
    (takeIn body s).pending = s.pending ∧ (takeIn body s).power = s.power ∧
    (takeIn body s).readsDone = s.readsDone ∧ (takeIn body s).clock = s.clock ∧
    (takeIn body s).cfg = s.cfg ∧ (takeIn body s).seq = s.seq ∧ (takeIn body s).bat = s.bat ∧
    (takeIn body s).stage = s.stage ∧ (takeIn body s).cap = s.cap := by
  unfold takeIn; try dsimp only
  repeat' split
  all_goals simp

@[simp] theorem statusArrives_frame (s : State) :
    (statusArrives s).pending = s.pending ∧ (statusArrives s).power = s.power ∧
    (statusArrives s).readsDone = s.readsDone ∧ (statusArrives s).clock = s.clock ∧
    (statusArrives s).cfg = s.cfg ∧ (statusArrives s).seq = s.seq ∧ (statusArrives s).bat = s.bat ∧
    (statusArrives s).stage = s.stage ∧ (statusArrives s).cap = s.cap := by
  unfold statusArrives; try dsimp only
  repeat' split
  all_goals simp

@[simp] theorem takeStatus_frame (s : State) :
    (takeStatus s).pending = s.pending ∧ (takeStatus s).power = s.power ∧
    (takeStatus s).readsDone = s.readsDone ∧ (takeStatus s).clock = s.clock ∧
    (takeStatus s).cfg = s.cfg ∧ (takeStatus s).seq = s.seq ∧ (takeStatus s).bat = s.bat ∧
    (takeStatus s).stage = s.stage ∧ (takeStatus s).cap = s.cap := by
  unfold takeStatus; try dsimp only
  repeat' split
  all_goals simp

@[simp] theorem markPacked_frame (f : EventRecord → EventRecord) (x : List Nat) (s : State) :
    (markPacked f x s).pending = s.pending ∧ (markPacked f x s).power = s.power ∧
    (markPacked f x s).readsDone = s.readsDone ∧ (markPacked f x s).clock = s.clock ∧
    (markPacked f x s).meas = s.meas ∧ (markPacked f x s).cfg = s.cfg ∧
    (markPacked f x s).seq = s.seq ∧ (markPacked f x s).en = s.en ∧
    (markPacked f x s).tags = s.tags ∧ (markPacked f x s).bat = s.bat ∧
    (markPacked f x s).stage = s.stage ∧ (markPacked f x s).rad = s.rad ∧
    (markPacked f x s).cap = s.cap := by
  induction x generalizing s <;> unfold markPacked <;> simp_all

@[simp] theorem endSend_frame (done : Bool) (s : State) :
    (endSend done s).pending = s.pending ∧ (endSend done s).power = s.power ∧
    (endSend done s).readsDone = s.readsDone ∧ (endSend done s).clock = s.clock ∧
    (endSend done s).meas = s.meas ∧ (endSend done s).cfg = s.cfg ∧ (endSend done s).seq = s.seq ∧
    (endSend done s).en = s.en ∧ (endSend done s).tags = s.tags ∧ (endSend done s).bat = s.bat ∧
    (endSend done s).stage = s.stage ∧ (endSend done s).cap = s.cap := by
  unfold endSend; try dsimp only
  repeat' split
  all_goals simp

@[simp] theorem enterRadioIdle_frame (s : State) :
    (enterRadioIdle s).pending = s.pending ∧ (enterRadioIdle s).power = s.power ∧
    (enterRadioIdle s).readsDone = s.readsDone ∧ (enterRadioIdle s).clock = s.clock ∧
    (enterRadioIdle s).meas = s.meas ∧ (enterRadioIdle s).cfg = s.cfg ∧
    (enterRadioIdle s).seq = s.seq ∧ (enterRadioIdle s).en = s.en ∧
    (enterRadioIdle s).tags = s.tags ∧ (enterRadioIdle s).bat = s.bat ∧
    (enterRadioIdle s).stage = s.stage ∧ (enterRadioIdle s).cap = s.cap := by
  unfold enterRadioIdle; try dsimp only
  all_goals simp


/-! ## Machine/Events -/

@[simp] theorem takeRaised_frame (source : RecordSource) (s : State) :
    (takeRaised source s).pending = s.pending ∧ (takeRaised source s).power = s.power ∧
    (takeRaised source s).readsDone = s.readsDone ∧ (takeRaised source s).clock = s.clock ∧
    (takeRaised source s).meas = s.meas ∧ (takeRaised source s).cfg = s.cfg ∧
    (takeRaised source s).seq = s.seq ∧ (takeRaised source s).en = s.en ∧
    (takeRaised source s).tags = s.tags ∧ (takeRaised source s).bat = s.bat ∧
    (takeRaised source s).stage = s.stage ∧ (takeRaised source s).eq = s.eq ∧
    (takeRaised source s).rad = s.rad ∧ (takeRaised source s).cap = s.cap := by
  unfold takeRaised; try dsimp only
  all_goals simp

@[simp] theorem takeArrival_frame (body : EventBody) (s : State) :
    (takeArrival body s).pending = s.pending ∧ (takeArrival body s).power = s.power ∧
    (takeArrival body s).readsDone = s.readsDone ∧ (takeArrival body s).clock = s.clock ∧
    (takeArrival body s).cfg = s.cfg ∧ (takeArrival body s).seq = s.seq ∧
    (takeArrival body s).bat = s.bat ∧ (takeArrival body s).stage = s.stage ∧
    (takeArrival body s).cap = s.cap := by
  unfold takeArrival; try dsimp only
  repeat' split
  all_goals simp

@[simp] theorem recordArrives_frame (source : RecordSource) (s : State) :
    (recordArrives source s).pending = s.pending ∧ (recordArrives source s).power = s.power ∧
    (recordArrives source s).readsDone = s.readsDone ∧ (recordArrives source s).clock = s.clock ∧
    (recordArrives source s).cfg = s.cfg ∧ (recordArrives source s).seq = s.seq ∧
    (recordArrives source s).bat = s.bat ∧ (recordArrives source s).stage = s.stage ∧
    (recordArrives source s).cap = s.cap := by
  unfold recordArrives; try dsimp only
  repeat' split
  all_goals simp

@[simp] theorem giveRecord_frame (id : Nat) (r : EventRecord) (s : State) :
    (giveRecord id r s).pending = s.pending ∧ (giveRecord id r s).power = s.power ∧
    (giveRecord id r s).readsDone = s.readsDone ∧ (giveRecord id r s).clock = s.clock ∧
    (giveRecord id r s).meas = s.meas ∧ (giveRecord id r s).cfg = s.cfg ∧
    (giveRecord id r s).seq = s.seq ∧ (giveRecord id r s).en = s.en ∧
    (giveRecord id r s).tags = s.tags ∧ (giveRecord id r s).bat = s.bat ∧
    (giveRecord id r s).stage = s.stage ∧ (giveRecord id r s).rad = s.rad ∧
    (giveRecord id r s).cap = s.cap := by
  unfold giveRecord; try dsimp only
  all_goals simp

@[simp] theorem startFetchWait_frame (id : Nat) (s : State) :
    (startFetchWait id s).pending = s.pending ∧ (startFetchWait id s).power = s.power ∧
    (startFetchWait id s).readsDone = s.readsDone ∧ (startFetchWait id s).clock = s.clock ∧
    (startFetchWait id s).meas = s.meas ∧ (startFetchWait id s).cfg = s.cfg ∧
    (startFetchWait id s).seq = s.seq ∧ (startFetchWait id s).en = s.en ∧
    (startFetchWait id s).tags = s.tags ∧ (startFetchWait id s).bat = s.bat ∧
    (startFetchWait id s).stage = s.stage ∧ (startFetchWait id s).rad = s.rad ∧
    (startFetchWait id s).cap = s.cap := by
  unfold startFetchWait; try dsimp only
  all_goals simp

@[simp] theorem takeFetch_frame (wait : Bool) (id : Nat) (s : State) :
    (takeFetch wait id s).pending = s.pending ∧ (takeFetch wait id s).power = s.power ∧
    (takeFetch wait id s).readsDone = s.readsDone ∧ (takeFetch wait id s).clock = s.clock ∧
    (takeFetch wait id s).meas = s.meas ∧ (takeFetch wait id s).cfg = s.cfg ∧
    (takeFetch wait id s).seq = s.seq ∧ (takeFetch wait id s).en = s.en ∧
    (takeFetch wait id s).tags = s.tags ∧ (takeFetch wait id s).bat = s.bat ∧
    (takeFetch wait id s).stage = s.stage ∧ (takeFetch wait id s).rad = s.rad ∧
    (takeFetch wait id s).cap = s.cap := by
  unfold takeFetch; try dsimp only
  repeat' split
  all_goals simp

@[simp] theorem serveEventFetch_frame (wait : Byte) (id : Nat) (s : State) :
    (serveEventFetch wait id s).pending = s.pending ∧ (serveEventFetch wait id s).power = s.power ∧
    (serveEventFetch wait id s).readsDone = s.readsDone ∧
    (serveEventFetch wait id s).clock = s.clock ∧ (serveEventFetch wait id s).meas = s.meas ∧
    (serveEventFetch wait id s).cfg = s.cfg ∧ (serveEventFetch wait id s).seq = s.seq ∧
    (serveEventFetch wait id s).en = s.en ∧ (serveEventFetch wait id s).tags = s.tags ∧
    (serveEventFetch wait id s).bat = s.bat ∧ (serveEventFetch wait id s).stage = s.stage ∧
    (serveEventFetch wait id s).rad = s.rad ∧ (serveEventFetch wait id s).cap = s.cap := by
  unfold serveEventFetch; try dsimp only
  repeat' split
  all_goals simp

end Sys2Proof.Machine
end

