-- ==== Sys2Proof/Laws/ProtectionFrames.lean ====
section
/-! SUPPORT. What the operations of measurement, time base, overcurrent unit, capture unit, sequence controller
and actuator and energy unit leave alone. -/

namespace Sys2Proof.Machine

/-! ## Machine/Measurement -/

@[simp] theorem deliverSet_frame (m : MeasSet) (s : State) :
    (deliverSet m s).pending = s.pending ∧ (deliverSet m s).power = s.power ∧
    (deliverSet m s).readsDone = s.readsDone ∧ (deliverSet m s).clock = s.clock ∧
    (deliverSet m s).cfg = s.cfg ∧ (deliverSet m s).seq = s.seq ∧ (deliverSet m s).en = s.en ∧
    (deliverSet m s).tags = s.tags ∧ (deliverSet m s).bat = s.bat ∧
    (deliverSet m s).stage = s.stage ∧ (deliverSet m s).eq = s.eq ∧ (deliverSet m s).rad = s.rad ∧
    (deliverSet m s).cap = s.cap := by
  unfold deliverSet; try dsimp only
  all_goals simp

@[simp] theorem countOpening_frame (p : Pole) (s : State) :
    (countOpening p s).pending = s.pending ∧ (countOpening p s).power = s.power ∧
    (countOpening p s).readsDone = s.readsDone ∧ (countOpening p s).clock = s.clock ∧
    (countOpening p s).cfg = s.cfg ∧ (countOpening p s).seq = s.seq ∧
    (countOpening p s).bat = s.bat ∧ (countOpening p s).stage = s.stage ∧
    (countOpening p s).eq = s.eq ∧ (countOpening p s).rad = s.rad ∧ (countOpening p s).cap = s.cap := by
  unfold countOpening; try dsimp only
  repeat' split
  all_goals simp

@[simp] theorem counterFollows_frame (p : Pole) (new : PoleState) (s : State) :
    (counterFollows p new s).pending = s.pending ∧ (counterFollows p new s).power = s.power ∧
    (counterFollows p new s).readsDone = s.readsDone ∧ (counterFollows p new s).clock = s.clock ∧
    (counterFollows p new s).cfg = s.cfg ∧ (counterFollows p new s).seq = s.seq ∧
    (counterFollows p new s).bat = s.bat ∧ (counterFollows p new s).stage = s.stage ∧
    (counterFollows p new s).eq = s.eq ∧ (counterFollows p new s).rad = s.rad ∧
    (counterFollows p new s).cap = s.cap := by
  unfold counterFollows; try dsimp only
  repeat' split
  all_goals simp

@[simp] theorem changePole_frame (p : Pole) (new : PoleState) (s : State) :
    (changePole p new s).pending = s.pending ∧ (changePole p new s).power = s.power ∧
    (changePole p new s).readsDone = s.readsDone ∧ (changePole p new s).clock = s.clock ∧
    (changePole p new s).cfg = s.cfg ∧ (changePole p new s).seq = s.seq ∧
    (changePole p new s).bat = s.bat ∧ (changePole p new s).stage = s.stage ∧
    (changePole p new s).eq = s.eq ∧ (changePole p new s).rad = s.rad ∧
    (changePole p new s).cap = s.cap := by
  unfold changePole; try dsimp only
  repeat' split
  all_goals simp

@[simp] theorem derivePole_frame (p : Pole) (s : State) :
    (derivePole p s).pending = s.pending ∧ (derivePole p s).power = s.power ∧
    (derivePole p s).readsDone = s.readsDone ∧ (derivePole p s).clock = s.clock ∧
    (derivePole p s).cfg = s.cfg ∧ (derivePole p s).seq = s.seq ∧ (derivePole p s).bat = s.bat ∧
    (derivePole p s).stage = s.stage ∧ (derivePole p s).eq = s.eq ∧ (derivePole p s).rad = s.rad ∧
    (derivePole p s).cap = s.cap := by
  unfold derivePole; try dsimp only
  repeat' split
  all_goals simp

@[simp] theorem inputChanged_frame (f : FieldInput) (level : Bool) (s : State) :
    (inputChanged f level s).pending = s.pending ∧ (inputChanged f level s).power = s.power ∧
    (inputChanged f level s).readsDone = s.readsDone ∧ (inputChanged f level s).clock = s.clock ∧
    (inputChanged f level s).cfg = s.cfg ∧ (inputChanged f level s).seq = s.seq ∧
    (inputChanged f level s).bat = s.bat ∧ (inputChanged f level s).stage = s.stage ∧
    (inputChanged f level s).eq = s.eq ∧ (inputChanged f level s).rad = s.rad ∧
    (inputChanged f level s).cap = s.cap := by
  unfold inputChanged; try dsimp only
  repeat' split
  all_goals simp

@[simp] theorem serveCounterRead_frame (id : Nat) (s : State) :
    (serveCounterRead id s).pending = s.pending ∧ (serveCounterRead id s).power = s.power ∧
    (serveCounterRead id s).readsDone = s.readsDone ∧ (serveCounterRead id s).clock = s.clock ∧
    (serveCounterRead id s).meas = s.meas ∧ (serveCounterRead id s).cfg = s.cfg ∧
    (serveCounterRead id s).seq = s.seq ∧ (serveCounterRead id s).en = s.en ∧
    (serveCounterRead id s).tags = s.tags ∧ (serveCounterRead id s).bat = s.bat ∧
    (serveCounterRead id s).stage = s.stage ∧ (serveCounterRead id s).eq = s.eq ∧
    (serveCounterRead id s).rad = s.rad ∧ (serveCounterRead id s).cap = s.cap := by
  unfold serveCounterRead; try dsimp only
  all_goals simp

@[simp] theorem serveCounterSet_frame (pole : Byte) (value : Wide) (id : Nat) (s : State) :
    (serveCounterSet pole value id s).pending = s.pending ∧
    (serveCounterSet pole value id s).power = s.power ∧
    (serveCounterSet pole value id s).readsDone = s.readsDone ∧
    (serveCounterSet pole value id s).clock = s.clock ∧
    (serveCounterSet pole value id s).cfg = s.cfg ∧ (serveCounterSet pole value id s).seq = s.seq ∧
    (serveCounterSet pole value id s).bat = s.bat ∧
    (serveCounterSet pole value id s).stage = s.stage ∧
    (serveCounterSet pole value id s).eq = s.eq ∧ (serveCounterSet pole value id s).rad = s.rad ∧
    (serveCounterSet pole value id s).cap = s.cap := by
  unfold serveCounterSet; try dsimp only
  repeat' split
  all_goals simp


/-! ## Machine/TimeBase -/

@[simp] theorem setClock_frame (source : CmdSource) (seconds : Wide) (word : Half) (s : State) :
    (setClock source seconds word s).pending = s.pending ∧
    (setClock source seconds word s).power = s.power ∧
    (setClock source seconds word s).readsDone = s.readsDone ∧
    (setClock source seconds word s).meas = s.meas ∧ (setClock source seconds word s).cfg = s.cfg ∧
    (setClock source seconds word s).seq = s.seq ∧ (setClock source seconds word s).en = s.en ∧
    (setClock source seconds word s).tags = s.tags ∧ (setClock source seconds word s).bat = s.bat ∧
    (setClock source seconds word s).stage = s.stage ∧ (setClock source seconds word s).eq = s.eq ∧
    (setClock source seconds word s).rad = s.rad ∧ (setClock source seconds word s).cap = s.cap := by
  unfold setClock; try dsimp only
  all_goals simp

@[simp] theorem serveTimeSet_frame (seconds : Wide) (word : Half) (id : Nat) (s : State) :
    (serveTimeSet seconds word id s).pending = s.pending ∧
    (serveTimeSet seconds word id s).power = s.power ∧
    (serveTimeSet seconds word id s).readsDone = s.readsDone ∧
    (serveTimeSet seconds word id s).meas = s.meas ∧ (serveTimeSet seconds word id s).cfg = s.cfg ∧
    (serveTimeSet seconds word id s).seq = s.seq ∧ (serveTimeSet seconds word id s).en = s.en ∧
    (serveTimeSet seconds word id s).tags = s.tags ∧ (serveTimeSet seconds word id s).bat = s.bat ∧
    (serveTimeSet seconds word id s).stage = s.stage ∧ (serveTimeSet seconds word id s).eq = s.eq ∧
    (serveTimeSet seconds word id s).rad = s.rad ∧ (serveTimeSet seconds word id s).cap = s.cap := by
  unfold serveTimeSet; try dsimp only
  repeat' split
  all_goals simp


/-! ## Machine/Overcurrent -/

@[simp] theorem evaluateSet_frame (m : MeasSet) (s : State) :
    (evaluateSet m s).pending = s.pending ∧ (evaluateSet m s).power = s.power ∧
    (evaluateSet m s).readsDone = s.readsDone ∧ (evaluateSet m s).clock = s.clock ∧
    (evaluateSet m s).meas = s.meas ∧ (evaluateSet m s).cfg = s.cfg ∧
    (evaluateSet m s).seq = s.seq ∧ (evaluateSet m s).en = s.en ∧ (evaluateSet m s).tags = s.tags ∧
    (evaluateSet m s).bat = s.bat ∧ (evaluateSet m s).stage = s.stage ∧
    (evaluateSet m s).eq = s.eq ∧ (evaluateSet m s).rad = s.rad ∧ (evaluateSet m s).cap = s.cap := by
  unfold evaluateSet; try dsimp only
  all_goals simp

@[simp] theorem clearElements_frame (s : State) :
    (clearElements s).pending = s.pending ∧ (clearElements s).power = s.power ∧
    (clearElements s).readsDone = s.readsDone ∧ (clearElements s).clock = s.clock ∧
    (clearElements s).meas = s.meas ∧ (clearElements s).cfg = s.cfg ∧
    (clearElements s).seq = s.seq ∧ (clearElements s).en = s.en ∧ (clearElements s).tags = s.tags ∧
    (clearElements s).bat = s.bat ∧ (clearElements s).stage = s.stage ∧
    (clearElements s).eq = s.eq ∧ (clearElements s).rad = s.rad ∧ (clearElements s).cap = s.cap := by
  unfold clearElements; try dsimp only
  all_goals simp


/-! ## Machine/CaptureUnit -/

@[simp] theorem clearCaptures_frame (count : Nat) (s : State) :
    (clearCaptures count s).pending = s.pending ∧ (clearCaptures count s).power = s.power ∧
    (clearCaptures count s).readsDone = s.readsDone ∧ (clearCaptures count s).clock = s.clock ∧
    (clearCaptures count s).meas = s.meas ∧ (clearCaptures count s).cfg = s.cfg ∧
    (clearCaptures count s).seq = s.seq ∧ (clearCaptures count s).en = s.en ∧
    (clearCaptures count s).tags = s.tags ∧ (clearCaptures count s).bat = s.bat ∧
    (clearCaptures count s).stage = s.stage ∧ (clearCaptures count s).eq = s.eq ∧
    (clearCaptures count s).rad = s.rad := by
  unfold clearCaptures; try dsimp only
  all_goals simp

@[simp] theorem writeSet_frame (m : MeasSet) (s : State) :
    (writeSet m s).pending = s.pending ∧ (writeSet m s).power = s.power ∧
    (writeSet m s).readsDone = s.readsDone ∧ (writeSet m s).clock = s.clock ∧
    (writeSet m s).meas = s.meas ∧ (writeSet m s).cfg = s.cfg ∧ (writeSet m s).seq = s.seq ∧
    (writeSet m s).en = s.en ∧ (writeSet m s).tags = s.tags ∧ (writeSet m s).bat = s.bat ∧
    (writeSet m s).stage = s.stage ∧ (writeSet m s).eq = s.eq ∧ (writeSet m s).rad = s.rad := by
  unfold writeSet; try dsimp only
  repeat' split
  all_goals simp

@[simp] theorem triggerCapture_frame (trigger : Nat) (s : State) :
    (triggerCapture trigger s).2.pending = s.pending ∧
    (triggerCapture trigger s).2.power = s.power ∧
    (triggerCapture trigger s).2.readsDone = s.readsDone ∧
    (triggerCapture trigger s).2.clock = s.clock ∧ (triggerCapture trigger s).2.meas = s.meas ∧
    (triggerCapture trigger s).2.cfg = s.cfg ∧ (triggerCapture trigger s).2.seq = s.seq ∧
    (triggerCapture trigger s).2.en = s.en ∧ (triggerCapture trigger s).2.tags = s.tags ∧
    (triggerCapture trigger s).2.bat = s.bat ∧ (triggerCapture trigger s).2.stage = s.stage ∧
    (triggerCapture trigger s).2.eq = s.eq ∧ (triggerCapture trigger s).2.rad = s.rad := by
  unfold triggerCapture; try dsimp only
  repeat' split
  all_goals simp

@[simp] theorem readCapture_frame (request id index : Nat) (s : State) :
    (readCapture request id index s).pending = s.pending ∧
    (readCapture request id index s).power = s.power ∧
    (readCapture request id index s).readsDone = s.readsDone ∧
    (readCapture request id index s).clock = s.clock ∧
    (readCapture request id index s).meas = s.meas ∧ (readCapture request id index s).cfg = s.cfg ∧
    (readCapture request id index s).seq = s.seq ∧ (readCapture request id index s).en = s.en ∧
    (readCapture request id index s).tags = s.tags ∧ (readCapture request id index s).bat = s.bat ∧
    (readCapture request id index s).stage = s.stage ∧ (readCapture request id index s).eq = s.eq ∧
    (readCapture request id index s).rad = s.rad := by
  unfold readCapture; try dsimp only
  repeat' split
  all_goals simp

@[simp] theorem serveCaptureRead_frame (id index : Half) (r : Nat) (s : State) :
    (serveCaptureRead id index r s).pending = s.pending ∧
    (serveCaptureRead id index r s).power = s.power ∧
    (serveCaptureRead id index r s).readsDone = s.readsDone ∧
    (serveCaptureRead id index r s).clock = s.clock ∧
    (serveCaptureRead id index r s).meas = s.meas ∧ (serveCaptureRead id index r s).cfg = s.cfg ∧
    (serveCaptureRead id index r s).seq = s.seq ∧ (serveCaptureRead id index r s).en = s.en ∧
    (serveCaptureRead id index r s).tags = s.tags ∧ (serveCaptureRead id index r s).bat = s.bat ∧
    (serveCaptureRead id index r s).stage = s.stage ∧ (serveCaptureRead id index r s).eq = s.eq ∧
    (serveCaptureRead id index r s).rad = s.rad := by
  unfold serveCaptureRead; try dsimp only
  all_goals simp

@[simp] theorem serveCaptureReadNext_frame (r : Nat) (s : State) :
    (serveCaptureReadNext r s).pending = s.pending ∧ (serveCaptureReadNext r s).power = s.power ∧
    (serveCaptureReadNext r s).readsDone = s.readsDone ∧
    (serveCaptureReadNext r s).clock = s.clock ∧ (serveCaptureReadNext r s).meas = s.meas ∧
    (serveCaptureReadNext r s).cfg = s.cfg ∧ (serveCaptureReadNext r s).seq = s.seq ∧
    (serveCaptureReadNext r s).en = s.en ∧ (serveCaptureReadNext r s).tags = s.tags ∧
    (serveCaptureReadNext r s).bat = s.bat ∧ (serveCaptureReadNext r s).stage = s.stage ∧
    (serveCaptureReadNext r s).eq = s.eq ∧ (serveCaptureReadNext r s).rad = s.rad := by
  unfold serveCaptureReadNext; try dsimp only
  repeat' split
  all_goals simp

@[simp] theorem serveCaptureList_frame (r : Nat) (s : State) :
    (serveCaptureList r s).pending = s.pending ∧ (serveCaptureList r s).power = s.power ∧
    (serveCaptureList r s).readsDone = s.readsDone ∧ (serveCaptureList r s).clock = s.clock ∧
    (serveCaptureList r s).meas = s.meas ∧ (serveCaptureList r s).cfg = s.cfg ∧
    (serveCaptureList r s).seq = s.seq ∧ (serveCaptureList r s).en = s.en ∧
    (serveCaptureList r s).tags = s.tags ∧ (serveCaptureList r s).bat = s.bat ∧
    (serveCaptureList r s).stage = s.stage ∧ (serveCaptureList r s).eq = s.eq ∧
    (serveCaptureList r s).rad = s.rad ∧ (serveCaptureList r s).cap = s.cap := by
  unfold serveCaptureList; try dsimp only
  all_goals simp

@[simp] theorem serveCaptureRelease_frame (id : Half) (r : Nat) (s : State) :
    (serveCaptureRelease id r s).pending = s.pending ∧
    (serveCaptureRelease id r s).power = s.power ∧
    (serveCaptureRelease id r s).readsDone = s.readsDone ∧
    (serveCaptureRelease id r s).clock = s.clock ∧ (serveCaptureRelease id r s).meas = s.meas ∧
    (serveCaptureRelease id r s).cfg = s.cfg ∧ (serveCaptureRelease id r s).seq = s.seq ∧
    (serveCaptureRelease id r s).en = s.en ∧ (serveCaptureRelease id r s).tags = s.tags ∧
    (serveCaptureRelease id r s).bat = s.bat ∧ (serveCaptureRelease id r s).stage = s.stage ∧
    (serveCaptureRelease id r s).eq = s.eq ∧ (serveCaptureRelease id r s).rad = s.rad := by
  unfold serveCaptureRelease; try dsimp only
  repeat' split
  all_goals simp

@[simp] theorem serveRestartCapture_frame (r : Nat) (s : State) :
    (serveRestartCapture r s).pending = s.pending ∧ (serveRestartCapture r s).power = s.power ∧
    (serveRestartCapture r s).readsDone = s.readsDone ∧ (serveRestartCapture r s).clock = s.clock ∧
    (serveRestartCapture r s).meas = s.meas ∧ (serveRestartCapture r s).cfg = s.cfg ∧
    (serveRestartCapture r s).seq = s.seq ∧ (serveRestartCapture r s).en = s.en ∧
    (serveRestartCapture r s).tags = s.tags ∧ (serveRestartCapture r s).bat = s.bat ∧
    (serveRestartCapture r s).stage = s.stage ∧ (serveRestartCapture r s).eq = s.eq ∧
    (serveRestartCapture r s).rad = s.rad := by
  unfold serveRestartCapture; try dsimp only
  all_goals simp


/-! ## Machine/EnergyOps -/

@[simp] theorem handStroke_frame (m : StrokeMsg) (s : State) :
    (handStroke m s).pending = s.pending ∧ (handStroke m s).power = s.power ∧
    (handStroke m s).readsDone = s.readsDone ∧ (handStroke m s).clock = s.clock ∧
    (handStroke m s).meas = s.meas ∧ (handStroke m s).cfg = s.cfg ∧ (handStroke m s).seq = s.seq ∧
    (handStroke m s).en = s.en ∧ (handStroke m s).tags = s.tags ∧ (handStroke m s).bat = s.bat ∧
    (handStroke m s).stage = s.stage ∧ (handStroke m s).eq = s.eq ∧ (handStroke m s).rad = s.rad ∧
    (handStroke m s).cap = s.cap := by
  unfold handStroke; try dsimp only
  all_goals simp

@[simp] theorem refuseAll_frame (reason : RefusalReason) (l : List StrokeRequest) (s : State) :
    (refuseAll reason l s).pending = s.pending ∧ (refuseAll reason l s).power = s.power ∧
    (refuseAll reason l s).readsDone = s.readsDone ∧ (refuseAll reason l s).clock = s.clock ∧
    (refuseAll reason l s).meas = s.meas ∧ (refuseAll reason l s).cfg = s.cfg ∧
    (refuseAll reason l s).seq = s.seq ∧ (refuseAll reason l s).en = s.en ∧
    (refuseAll reason l s).tags = s.tags ∧ (refuseAll reason l s).bat = s.bat ∧
    (refuseAll reason l s).stage = s.stage ∧ (refuseAll reason l s).eq = s.eq ∧
    (refuseAll reason l s).rad = s.rad ∧ (refuseAll reason l s).cap = s.cap := by
  unfold refuseAll; try dsimp only
  all_goals simp

@[simp] theorem setBankCharger_frame (c : BankCharger) (s : State) :
    (setBankCharger c s).pending = s.pending ∧ (setBankCharger c s).power = s.power ∧
    (setBankCharger c s).readsDone = s.readsDone ∧ (setBankCharger c s).clock = s.clock ∧
    (setBankCharger c s).meas = s.meas ∧ (setBankCharger c s).cfg = s.cfg ∧
    (setBankCharger c s).seq = s.seq ∧ (setBankCharger c s).tags = s.tags ∧
    (setBankCharger c s).bat = s.bat ∧ (setBankCharger c s).stage = s.stage ∧
    (setBankCharger c s).eq = s.eq ∧ (setBankCharger c s).rad = s.rad ∧
    (setBankCharger c s).cap = s.cap := by
  unfold setBankCharger; try dsimp only
  repeat' split
  all_goals simp

@[simp] theorem displace_frame (s : State) :
    (displace s).pending = s.pending ∧ (displace s).power = s.power ∧
    (displace s).readsDone = s.readsDone ∧ (displace s).clock = s.clock ∧
    (displace s).meas = s.meas ∧ (displace s).cfg = s.cfg ∧ (displace s).seq = s.seq ∧
    (displace s).tags = s.tags ∧ (displace s).bat = s.bat ∧ (displace s).stage = s.stage ∧
    (displace s).eq = s.eq ∧ (displace s).rad = s.rad ∧ (displace s).cap = s.cap := by
  unfold displace; try dsimp only
  repeat' split
  all_goals simp

@[simp] theorem arbitrate_frame (x : Nat) (s : State) :
    (arbitrate x s).pending = s.pending ∧ (arbitrate x s).power = s.power ∧
    (arbitrate x s).readsDone = s.readsDone ∧ (arbitrate x s).clock = s.clock ∧
    (arbitrate x s).meas = s.meas ∧ (arbitrate x s).cfg = s.cfg ∧ (arbitrate x s).seq = s.seq ∧
    (arbitrate x s).tags = s.tags ∧ (arbitrate x s).bat = s.bat ∧ (arbitrate x s).stage = s.stage ∧
    (arbitrate x s).eq = s.eq ∧ (arbitrate x s).rad = s.rad ∧ (arbitrate x s).cap = s.cap := by
  induction x generalizing s <;> unfold arbitrate <;> (try dsimp only) <;> (repeat' split) <;> simp_all

@[simp] theorem judgeArbiter_frame (s : State) :
    (judgeArbiter s).pending = s.pending ∧ (judgeArbiter s).power = s.power ∧
    (judgeArbiter s).readsDone = s.readsDone ∧ (judgeArbiter s).clock = s.clock ∧
    (judgeArbiter s).meas = s.meas ∧ (judgeArbiter s).cfg = s.cfg ∧ (judgeArbiter s).seq = s.seq ∧
    (judgeArbiter s).tags = s.tags ∧ (judgeArbiter s).bat = s.bat ∧
    (judgeArbiter s).stage = s.stage ∧ (judgeArbiter s).eq = s.eq ∧ (judgeArbiter s).rad = s.rad ∧
    (judgeArbiter s).cap = s.cap := by
  unfold judgeArbiter; try dsimp only
  all_goals simp

@[simp] theorem queueRetry_frame (k : Stroke) (missed : PoleSet) (s : State) :
    (queueRetry k missed s).pending = s.pending ∧ (queueRetry k missed s).power = s.power ∧
    (queueRetry k missed s).readsDone = s.readsDone ∧ (queueRetry k missed s).clock = s.clock ∧
    (queueRetry k missed s).meas = s.meas ∧ (queueRetry k missed s).cfg = s.cfg ∧
    (queueRetry k missed s).seq = s.seq ∧ (queueRetry k missed s).tags = s.tags ∧
    (queueRetry k missed s).bat = s.bat ∧ (queueRetry k missed s).stage = s.stage ∧
    (queueRetry k missed s).eq = s.eq ∧ (queueRetry k missed s).rad = s.rad ∧
    (queueRetry k missed s).cap = s.cap := by
  unfold queueRetry; try dsimp only
  all_goals simp

@[simp] theorem markFailed_frame (k : Stroke) (missed : PoleSet) (s : State) :
    (markFailed k missed s).pending = s.pending ∧ (markFailed k missed s).power = s.power ∧
    (markFailed k missed s).readsDone = s.readsDone ∧ (markFailed k missed s).clock = s.clock ∧
    (markFailed k missed s).cfg = s.cfg ∧ (markFailed k missed s).seq = s.seq ∧
    (markFailed k missed s).bat = s.bat ∧ (markFailed k missed s).stage = s.stage ∧
    (markFailed k missed s).eq = s.eq ∧ (markFailed k missed s).rad = s.rad ∧
    (markFailed k missed s).cap = s.cap := by
  unfold markFailed; try dsimp only
  all_goals simp

@[simp] theorem strokeFailure_frame (k : Stroke) (missed : PoleSet) (s : State) :
    (strokeFailure k missed s).pending = s.pending ∧ (strokeFailure k missed s).power = s.power ∧
    (strokeFailure k missed s).readsDone = s.readsDone ∧
    (strokeFailure k missed s).clock = s.clock ∧ (strokeFailure k missed s).cfg = s.cfg ∧
    (strokeFailure k missed s).seq = s.seq ∧ (strokeFailure k missed s).bat = s.bat ∧
    (strokeFailure k missed s).stage = s.stage ∧ (strokeFailure k missed s).eq = s.eq ∧
    (strokeFailure k missed s).rad = s.rad ∧ (strokeFailure k missed s).cap = s.cap := by
  unfold strokeFailure; try dsimp only
  repeat' split
  all_goals simp

@[simp] theorem endStroke_frame (k : Stroke) (missed : PoleSet) (s : State) :
    (endStroke k missed s).pending = s.pending ∧ (endStroke k missed s).power = s.power ∧
    (endStroke k missed s).readsDone = s.readsDone ∧ (endStroke k missed s).clock = s.clock ∧
    (endStroke k missed s).cfg = s.cfg ∧ (endStroke k missed s).seq = s.seq ∧
    (endStroke k missed s).bat = s.bat ∧ (endStroke k missed s).stage = s.stage ∧
    (endStroke k missed s).eq = s.eq ∧ (endStroke k missed s).rad = s.rad ∧
    (endStroke k missed s).cap = s.cap := by
  unfold endStroke; try dsimp only
  all_goals simp

@[simp] theorem refuseCloses_frame (reason : RefusalReason) (which : StrokeRequest → Bool) (s : State) :
    (refuseCloses reason which s).pending = s.pending ∧
    (refuseCloses reason which s).power = s.power ∧
    (refuseCloses reason which s).readsDone = s.readsDone ∧
    (refuseCloses reason which s).clock = s.clock ∧ (refuseCloses reason which s).meas = s.meas ∧
    (refuseCloses reason which s).cfg = s.cfg ∧ (refuseCloses reason which s).seq = s.seq ∧
    (refuseCloses reason which s).tags = s.tags ∧ (refuseCloses reason which s).bat = s.bat ∧
    (refuseCloses reason which s).stage = s.stage ∧ (refuseCloses reason which s).eq = s.eq ∧
    (refuseCloses reason which s).rad = s.rad ∧ (refuseCloses reason which s).cap = s.cap := by
  unfold refuseCloses; try dsimp only
  all_goals simp

@[simp] theorem energyPowerState_frame (new : PowerState) (s : State) :
    (energyPowerState new s).pending = s.pending ∧ (energyPowerState new s).power = s.power ∧
    (energyPowerState new s).readsDone = s.readsDone ∧ (energyPowerState new s).clock = s.clock ∧
    (energyPowerState new s).meas = s.meas ∧ (energyPowerState new s).cfg = s.cfg ∧
    (energyPowerState new s).seq = s.seq ∧ (energyPowerState new s).tags = s.tags ∧
    (energyPowerState new s).bat = s.bat ∧ (energyPowerState new s).stage = s.stage ∧
    (energyPowerState new s).eq = s.eq ∧ (energyPowerState new s).rad = s.rad ∧
    (energyPowerState new s).cap = s.cap := by
  unfold energyPowerState; try dsimp only
  repeat' split
  all_goals simp

@[simp] theorem takeBankSample_frame (bank : Nat) (s : State) :
    (takeBankSample bank s).pending = s.pending ∧ (takeBankSample bank s).power = s.power ∧
    (takeBankSample bank s).readsDone = s.readsDone ∧ (takeBankSample bank s).clock = s.clock ∧
    (takeBankSample bank s).meas = s.meas ∧ (takeBankSample bank s).cfg = s.cfg ∧
    (takeBankSample bank s).seq = s.seq ∧ (takeBankSample bank s).tags = s.tags ∧
    (takeBankSample bank s).bat = s.bat ∧ (takeBankSample bank s).stage = s.stage ∧
    (takeBankSample bank s).eq = s.eq ∧ (takeBankSample bank s).rad = s.rad ∧
    (takeBankSample bank s).cap = s.cap := by
  unfold takeBankSample; try dsimp only
  all_goals simp


/-! ## Machine/Energy -/

@[simp] theorem enterTrip_frame (poles : PoleSet) (origin : StrokeOrigin) (joined : PoleSet) (s : State) :
    (enterTrip poles origin joined s).pending = s.pending ∧ (enterTrip poles origin joined s).power = s.power ∧
    (enterTrip poles origin joined s).readsDone = s.readsDone ∧
    (enterTrip poles origin joined s).clock = s.clock ∧ (enterTrip poles origin joined s).meas = s.meas ∧
    (enterTrip poles origin joined s).cfg = s.cfg ∧ (enterTrip poles origin joined s).seq = s.seq ∧
    (enterTrip poles origin joined s).tags = s.tags ∧ (enterTrip poles origin joined s).bat = s.bat ∧
    (enterTrip poles origin joined s).stage = s.stage ∧ (enterTrip poles origin joined s).eq = s.eq ∧
    (enterTrip poles origin joined s).rad = s.rad ∧ (enterTrip poles origin joined s).cap = s.cap := by
  unfold enterTrip; try dsimp only
  all_goals simp

@[simp] theorem placeTrip_frame (poles : PoleSet) (origin : StrokeOrigin) (joined : PoleSet) (s : State) :
    (placeTrip poles origin joined s).pending = s.pending ∧ (placeTrip poles origin joined s).power = s.power ∧
    (placeTrip poles origin joined s).readsDone = s.readsDone ∧
    (placeTrip poles origin joined s).clock = s.clock ∧ (placeTrip poles origin joined s).meas = s.meas ∧
    (placeTrip poles origin joined s).cfg = s.cfg ∧ (placeTrip poles origin joined s).seq = s.seq ∧
    (placeTrip poles origin joined s).tags = s.tags ∧ (placeTrip poles origin joined s).bat = s.bat ∧
    (placeTrip poles origin joined s).stage = s.stage ∧ (placeTrip poles origin joined s).eq = s.eq ∧
    (placeTrip poles origin joined s).rad = s.rad ∧ (placeTrip poles origin joined s).cap = s.cap := by
  unfold placeTrip; try dsimp only
  repeat' split
  all_goals simp

@[simp] theorem takeTrip_frame (poles : PoleSet) (origin : StrokeOrigin) (joined : PoleSet) (s : State) :
    (takeTrip poles origin joined s).pending = s.pending ∧ (takeTrip poles origin joined s).power = s.power ∧
    (takeTrip poles origin joined s).readsDone = s.readsDone ∧ (takeTrip poles origin joined s).clock = s.clock ∧
    (takeTrip poles origin joined s).meas = s.meas ∧ (takeTrip poles origin joined s).cfg = s.cfg ∧
    (takeTrip poles origin joined s).seq = s.seq ∧ (takeTrip poles origin joined s).tags = s.tags ∧
    (takeTrip poles origin joined s).bat = s.bat ∧ (takeTrip poles origin joined s).stage = s.stage ∧
    (takeTrip poles origin joined s).eq = s.eq ∧ (takeTrip poles origin joined s).rad = s.rad ∧
    (takeTrip poles origin joined s).cap = s.cap := by
  unfold takeTrip; try dsimp only
  all_goals simp

@[simp] theorem takeClose_frame (poles : PoleSet) (origin : StrokeOrigin) (s : State) :
    (takeClose poles origin s).pending = s.pending ∧ (takeClose poles origin s).power = s.power ∧
    (takeClose poles origin s).readsDone = s.readsDone ∧
    (takeClose poles origin s).clock = s.clock ∧ (takeClose poles origin s).meas = s.meas ∧
    (takeClose poles origin s).cfg = s.cfg ∧ (takeClose poles origin s).seq = s.seq ∧
    (takeClose poles origin s).tags = s.tags ∧ (takeClose poles origin s).bat = s.bat ∧
    (takeClose poles origin s).stage = s.stage ∧ (takeClose poles origin s).eq = s.eq ∧
    (takeClose poles origin s).rad = s.rad ∧ (takeClose poles origin s).cap = s.cap := by
  unfold takeClose; try dsimp only
  repeat' split
  all_goals simp

@[simp] theorem popRequest_frame (rest : List EnergyMsg) (s : State) :
    (popRequest rest s).pending = s.pending ∧ (popRequest rest s).power = s.power ∧
    (popRequest rest s).readsDone = s.readsDone ∧ (popRequest rest s).clock = s.clock ∧
    (popRequest rest s).meas = s.meas ∧ (popRequest rest s).cfg = s.cfg ∧
    (popRequest rest s).seq = s.seq ∧ (popRequest rest s).en = s.en ∧
    (popRequest rest s).tags = s.tags ∧ (popRequest rest s).bat = s.bat ∧
    (popRequest rest s).stage = s.stage ∧ (popRequest rest s).eq = s.eq ∧
    (popRequest rest s).rad = s.rad ∧ (popRequest rest s).cap = s.cap := by
  unfold popRequest; try dsimp only
  all_goals simp

@[simp] theorem judgeCompletion_frame (p : Pole) (s : State) :
    (judgeCompletion p s).pending = s.pending ∧ (judgeCompletion p s).power = s.power ∧
    (judgeCompletion p s).readsDone = s.readsDone ∧ (judgeCompletion p s).clock = s.clock ∧
    (judgeCompletion p s).cfg = s.cfg ∧ (judgeCompletion p s).seq = s.seq ∧
    (judgeCompletion p s).bat = s.bat ∧ (judgeCompletion p s).stage = s.stage ∧
    (judgeCompletion p s).eq = s.eq ∧ (judgeCompletion p s).rad = s.rad ∧
    (judgeCompletion p s).cap = s.cap := by
  unfold judgeCompletion; try dsimp only
  repeat' split
  all_goals simp

@[simp] theorem timeoutStroke_frame (s : State) :
    (timeoutStroke s).pending = s.pending ∧ (timeoutStroke s).power = s.power ∧
    (timeoutStroke s).readsDone = s.readsDone ∧ (timeoutStroke s).clock = s.clock ∧
    (timeoutStroke s).cfg = s.cfg ∧ (timeoutStroke s).seq = s.seq ∧ (timeoutStroke s).bat = s.bat ∧
    (timeoutStroke s).stage = s.stage ∧ (timeoutStroke s).eq = s.eq ∧
    (timeoutStroke s).rad = s.rad ∧ (timeoutStroke s).cap = s.cap := by
  unfold timeoutStroke; try dsimp only
  repeat' split
  all_goals simp

@[simp] theorem servePoleFailClear_frame (pole : Byte) (id : Nat) (s : State) :
    (servePoleFailClear pole id s).pending = s.pending ∧
    (servePoleFailClear pole id s).power = s.power ∧
    (servePoleFailClear pole id s).readsDone = s.readsDone ∧
    (servePoleFailClear pole id s).clock = s.clock ∧ (servePoleFailClear pole id s).cfg = s.cfg ∧
    (servePoleFailClear pole id s).seq = s.seq ∧ (servePoleFailClear pole id s).bat = s.bat ∧
    (servePoleFailClear pole id s).stage = s.stage ∧ (servePoleFailClear pole id s).eq = s.eq ∧
    (servePoleFailClear pole id s).rad = s.rad ∧ (servePoleFailClear pole id s).cap = s.cap := by
  unfold servePoleFailClear; try dsimp only
  repeat' split
  all_goals simp


/-! ## Machine/SequenceOps -/

@[simp] theorem mapRecs_frame (ps : PoleSet) (f : SeqRecord → SeqRecord) (s : State) :
    (mapRecs ps f s).pending = s.pending ∧ (mapRecs ps f s).power = s.power ∧
    (mapRecs ps f s).readsDone = s.readsDone ∧ (mapRecs ps f s).clock = s.clock ∧
    (mapRecs ps f s).meas = s.meas ∧ (mapRecs ps f s).cfg = s.cfg ∧ (mapRecs ps f s).en = s.en ∧
    (mapRecs ps f s).tags = s.tags ∧ (mapRecs ps f s).bat = s.bat ∧
    (mapRecs ps f s).stage = s.stage ∧ (mapRecs ps f s).eq = s.eq ∧ (mapRecs ps f s).rad = s.rad ∧
    (mapRecs ps f s).cap = s.cap := by
  unfold mapRecs; try dsimp only
  all_goals simp

@[simp] theorem post_frame (m : EnergyMsg) (s : State) :
    (post m s).pending = s.pending ∧ (post m s).power = s.power ∧
    (post m s).readsDone = s.readsDone ∧ (post m s).clock = s.clock ∧ (post m s).meas = s.meas ∧
    (post m s).cfg = s.cfg ∧ (post m s).seq = s.seq ∧ (post m s).en = s.en ∧
    (post m s).tags = s.tags ∧ (post m s).bat = s.bat ∧ (post m s).stage = s.stage ∧
    (post m s).eq = s.eq ∧ (post m s).rad = s.rad ∧ (post m s).cap = s.cap := by
  unfold post; try dsimp only
  all_goals simp

@[simp] theorem postTrip_frame (ps : PoleSet) (o : StrokeOrigin) (s : State) :
    (postTrip ps o s).pending = s.pending ∧ (postTrip ps o s).power = s.power ∧
    (postTrip ps o s).readsDone = s.readsDone ∧ (postTrip ps o s).clock = s.clock ∧
    (postTrip ps o s).meas = s.meas ∧ (postTrip ps o s).cfg = s.cfg ∧
    (postTrip ps o s).seq = s.seq ∧ (postTrip ps o s).en = s.en ∧ (postTrip ps o s).tags = s.tags ∧
    (postTrip ps o s).bat = s.bat ∧ (postTrip ps o s).stage = s.stage ∧
    (postTrip ps o s).eq = s.eq ∧ (postTrip ps o s).rad = s.rad ∧ (postTrip ps o s).cap = s.cap := by
  unfold postTrip; try dsimp only
  repeat' split
  all_goals simp

@[simp] theorem postOperate_frame (ps : PoleSet) (s : State) :
    (postOperate ps s).pending = s.pending ∧ (postOperate ps s).power = s.power ∧
    (postOperate ps s).readsDone = s.readsDone ∧ (postOperate ps s).clock = s.clock ∧
    (postOperate ps s).meas = s.meas ∧ (postOperate ps s).cfg = s.cfg ∧
    (postOperate ps s).seq = s.seq ∧ (postOperate ps s).en = s.en ∧ (postOperate ps s).tags = s.tags ∧
    (postOperate ps s).bat = s.bat ∧ (postOperate ps s).stage = s.stage ∧
    (postOperate ps s).eq = s.eq ∧ (postOperate ps s).rad = s.rad ∧ (postOperate ps s).cap = s.cap := by
  unfold postOperate; try dsimp only
  repeat' split
  all_goals simp

@[simp] theorem postClose_frame (ps : PoleSet) (o : StrokeOrigin) (s : State) :
    (postClose ps o s).pending = s.pending ∧ (postClose ps o s).power = s.power ∧
    (postClose ps o s).readsDone = s.readsDone ∧ (postClose ps o s).clock = s.clock ∧
    (postClose ps o s).meas = s.meas ∧ (postClose ps o s).cfg = s.cfg ∧
    (postClose ps o s).seq = s.seq ∧ (postClose ps o s).en = s.en ∧
    (postClose ps o s).tags = s.tags ∧ (postClose ps o s).bat = s.bat ∧
    (postClose ps o s).stage = s.stage ∧ (postClose ps o s).eq = s.eq ∧
    (postClose ps o s).rad = s.rad ∧ (postClose ps o s).cap = s.cap := by
  unfold postClose; try dsimp only
  repeat' split
  all_goals simp

@[simp] theorem withdraw_frame (k : StrokeKind) (ps : PoleSet) (s : State) :
    (withdraw k ps s).pending = s.pending ∧ (withdraw k ps s).power = s.power ∧
    (withdraw k ps s).readsDone = s.readsDone ∧ (withdraw k ps s).clock = s.clock ∧
    (withdraw k ps s).meas = s.meas ∧ (withdraw k ps s).cfg = s.cfg ∧
    (withdraw k ps s).seq = s.seq ∧ (withdraw k ps s).en = s.en ∧ (withdraw k ps s).tags = s.tags ∧
    (withdraw k ps s).bat = s.bat ∧ (withdraw k ps s).stage = s.stage ∧
    (withdraw k ps s).eq = s.eq ∧ (withdraw k ps s).rad = s.rad ∧ (withdraw k ps s).cap = s.cap := by
  unfold withdraw; try dsimp only
  repeat' split
  all_goals simp

@[simp] theorem applyLockOps_frame (s : State) :
    (applyLockOps s).pending = s.pending ∧ (applyLockOps s).power = s.power ∧
    (applyLockOps s).readsDone = s.readsDone ∧ (applyLockOps s).clock = s.clock ∧
    (applyLockOps s).meas = s.meas ∧ (applyLockOps s).cfg = s.cfg ∧ (applyLockOps s).en = s.en ∧
    (applyLockOps s).tags = s.tags ∧ (applyLockOps s).bat = s.bat ∧
    (applyLockOps s).stage = s.stage ∧ (applyLockOps s).eq = s.eq ∧ (applyLockOps s).rad = s.rad ∧
    (applyLockOps s).cap = s.cap := by
  unfold applyLockOps; try dsimp only
  all_goals simp

@[simp] theorem reportRest_frame (departure : Bool) (s : State) :
    (reportRest departure s).pending = s.pending ∧ (reportRest departure s).power = s.power ∧
    (reportRest departure s).readsDone = s.readsDone ∧ (reportRest departure s).clock = s.clock ∧
    (reportRest departure s).meas = s.meas ∧ (reportRest departure s).cfg = s.cfg ∧
    (reportRest departure s).en = s.en ∧ (reportRest departure s).tags = s.tags ∧
    (reportRest departure s).bat = s.bat ∧ (reportRest departure s).stage = s.stage ∧
    (reportRest departure s).eq = s.eq ∧ (reportRest departure s).rad = s.rad ∧
    (reportRest departure s).cap = s.cap := by
  unfold reportRest; try dsimp only
  repeat' split
  all_goals simp

@[simp] theorem seqEvent_frame (f : State → State) (s : State) :
    (seqEvent f s).pending = (f s).pending ∧ (seqEvent f s).power = (f s).power ∧
    (seqEvent f s).readsDone = (f s).readsDone ∧ (seqEvent f s).clock = (f s).clock ∧
    (seqEvent f s).meas = (f s).meas ∧ (seqEvent f s).cfg = (f s).cfg ∧
    (seqEvent f s).en = (f s).en ∧ (seqEvent f s).tags = (f s).tags ∧
    (seqEvent f s).bat = (f s).bat ∧ (seqEvent f s).stage = (f s).stage ∧
    (seqEvent f s).eq = (f s).eq ∧ (seqEvent f s).rad = (f s).rad ∧ (seqEvent f s).cap = (f s).cap := by
  unfold seqEvent; simp

@[simp] theorem raiseLockout_frame (c : LockoutCause) (sources : List CmdSource) (ps : PoleSet) (s : State) :
    (raiseLockout c sources ps s).pending = s.pending ∧ (raiseLockout c sources ps s).power = s.power ∧
    (raiseLockout c sources ps s).readsDone = s.readsDone ∧ (raiseLockout c sources ps s).clock = s.clock ∧
    (raiseLockout c sources ps s).meas = s.meas ∧ (raiseLockout c sources ps s).cfg = s.cfg ∧
    (raiseLockout c sources ps s).seq = s.seq ∧ (raiseLockout c sources ps s).en = s.en ∧
    (raiseLockout c sources ps s).tags = s.tags ∧ (raiseLockout c sources ps s).bat = s.bat ∧
    (raiseLockout c sources ps s).stage = s.stage ∧ (raiseLockout c sources ps s).eq = s.eq ∧
    (raiseLockout c sources ps s).rad = s.rad ∧ (raiseLockout c sources ps s).cap = s.cap := by
  unfold raiseLockout; try dsimp only
  all_goals simp

@[simp] theorem raiseLockouts_frame (want : Tri (Option LockEntry)) (ps : PoleSet) (x : List LockoutCause) (s : State) :
    (raiseLockouts want ps x s).pending = s.pending ∧ (raiseLockouts want ps x s).power = s.power ∧
    (raiseLockouts want ps x s).readsDone = s.readsDone ∧
    (raiseLockouts want ps x s).clock = s.clock ∧ (raiseLockouts want ps x s).meas = s.meas ∧
    (raiseLockouts want ps x s).cfg = s.cfg ∧ (raiseLockouts want ps x s).seq = s.seq ∧
    (raiseLockouts want ps x s).en = s.en ∧ (raiseLockouts want ps x s).tags = s.tags ∧
    (raiseLockouts want ps x s).bat = s.bat ∧ (raiseLockouts want ps x s).stage = s.stage ∧
    (raiseLockouts want ps x s).eq = s.eq ∧ (raiseLockouts want ps x s).rad = s.rad ∧
    (raiseLockouts want ps x s).cap = s.cap := by
  induction x generalizing s <;> unfold raiseLockouts <;> (try dsimp only) <;> simp_all

@[simp] theorem lockRecords_frame (want : Tri (Option LockEntry)) (s : State) :
    (lockRecords want s).pending = s.pending ∧ (lockRecords want s).power = s.power ∧
    (lockRecords want s).readsDone = s.readsDone ∧ (lockRecords want s).clock = s.clock ∧
    (lockRecords want s).meas = s.meas ∧ (lockRecords want s).cfg = s.cfg ∧
    (lockRecords want s).en = s.en ∧ (lockRecords want s).tags = s.tags ∧
    (lockRecords want s).bat = s.bat ∧ (lockRecords want s).stage = s.stage ∧
    (lockRecords want s).eq = s.eq ∧ (lockRecords want s).rad = s.rad ∧
    (lockRecords want s).cap = s.cap := by
  unfold lockRecords; try dsimp only
  all_goals simp

@[simp] theorem spreadThreePole_frame (s : State) :
    (spreadThreePole s).pending = s.pending ∧ (spreadThreePole s).power = s.power ∧
    (spreadThreePole s).readsDone = s.readsDone ∧ (spreadThreePole s).clock = s.clock ∧
    (spreadThreePole s).meas = s.meas ∧ (spreadThreePole s).cfg = s.cfg ∧
    (spreadThreePole s).en = s.en ∧ (spreadThreePole s).tags = s.tags ∧
    (spreadThreePole s).bat = s.bat ∧ (spreadThreePole s).stage = s.stage ∧
    (spreadThreePole s).eq = s.eq ∧ (spreadThreePole s).rad = s.rad ∧
    (spreadThreePole s).cap = s.cap := by
  unfold spreadThreePole; try dsimp only
  all_goals simp

@[simp] theorem enterLockout_frame (want : Tri (Option LockEntry)) (s : State) :
    (enterLockout want s).pending = s.pending ∧ (enterLockout want s).power = s.power ∧
    (enterLockout want s).readsDone = s.readsDone ∧ (enterLockout want s).clock = s.clock ∧
    (enterLockout want s).meas = s.meas ∧ (enterLockout want s).cfg = s.cfg ∧
    (enterLockout want s).en = s.en ∧ (enterLockout want s).tags = s.tags ∧
    (enterLockout want s).bat = s.bat ∧ (enterLockout want s).stage = s.stage ∧
    (enterLockout want s).eq = s.eq ∧ (enterLockout want s).rad = s.rad ∧
    (enterLockout want s).cap = s.cap := by
  unfold enterLockout; try dsimp only
  repeat' split
  all_goals simp

@[simp] theorem lockPoles_frame (e : LockEntry) (ps : PoleSet) (s : State) :
    (lockPoles e ps s).pending = s.pending ∧ (lockPoles e ps s).power = s.power ∧
    (lockPoles e ps s).readsDone = s.readsDone ∧ (lockPoles e ps s).clock = s.clock ∧
    (lockPoles e ps s).meas = s.meas ∧ (lockPoles e ps s).cfg = s.cfg ∧
    (lockPoles e ps s).en = s.en ∧ (lockPoles e ps s).tags = s.tags ∧
    (lockPoles e ps s).bat = s.bat ∧ (lockPoles e ps s).stage = s.stage ∧
    (lockPoles e ps s).eq = s.eq ∧ (lockPoles e ps s).rad = s.rad ∧ (lockPoles e ps s).cap = s.cap := by
  unfold lockPoles; try dsimp only
  all_goals simp

@[simp] theorem lockTogether_frame (c : LockoutCause) (ps : PoleSet) (s : State) :
    (lockTogether c ps s).pending = s.pending ∧ (lockTogether c ps s).power = s.power ∧
    (lockTogether c ps s).readsDone = s.readsDone ∧ (lockTogether c ps s).clock = s.clock ∧
    (lockTogether c ps s).meas = s.meas ∧ (lockTogether c ps s).cfg = s.cfg ∧
    (lockTogether c ps s).en = s.en ∧ (lockTogether c ps s).tags = s.tags ∧
    (lockTogether c ps s).bat = s.bat ∧ (lockTogether c ps s).stage = s.stage ∧
    (lockTogether c ps s).eq = s.eq ∧ (lockTogether c ps s).rad = s.rad ∧
    (lockTogether c ps s).cap = s.cap := by
  unfold lockTogether; try dsimp only
  repeat' split
  all_goals simp

@[simp] theorem dropStaleTrips_frame (ps : PoleSet) (s : State) :
    (dropStaleTrips ps s).pending = s.pending ∧ (dropStaleTrips ps s).power = s.power ∧
    (dropStaleTrips ps s).readsDone = s.readsDone ∧ (dropStaleTrips ps s).clock = s.clock ∧
    (dropStaleTrips ps s).meas = s.meas ∧ (dropStaleTrips ps s).cfg = s.cfg ∧
    (dropStaleTrips ps s).en = s.en ∧ (dropStaleTrips ps s).tags = s.tags ∧
    (dropStaleTrips ps s).bat = s.bat ∧ (dropStaleTrips ps s).stage = s.stage ∧
    (dropStaleTrips ps s).eq = s.eq ∧ (dropStaleTrips ps s).rad = s.rad ∧
    (dropStaleTrips ps s).cap = s.cap := by
  unfold dropStaleTrips; try dsimp only
  all_goals simp

@[simp] theorem raiseTrip_frame (counting opened : PoleSet) (s : State) :
    (raiseTrip counting opened s).pending = s.pending ∧
    (raiseTrip counting opened s).power = s.power ∧
    (raiseTrip counting opened s).readsDone = s.readsDone ∧
    (raiseTrip counting opened s).clock = s.clock ∧ (raiseTrip counting opened s).meas = s.meas ∧
    (raiseTrip counting opened s).cfg = s.cfg ∧ (raiseTrip counting opened s).seq = s.seq ∧
    (raiseTrip counting opened s).en = s.en ∧ (raiseTrip counting opened s).tags = s.tags ∧
    (raiseTrip counting opened s).bat = s.bat ∧ (raiseTrip counting opened s).stage = s.stage ∧
    (raiseTrip counting opened s).eq = s.eq ∧ (raiseTrip counting opened s).rad = s.rad ∧
    (raiseTrip counting opened s).cap = s.cap := by
  unfold raiseTrip; try dsimp only
  repeat' split
  all_goals simp

@[simp] theorem judgeTrip_frame (poles opened : PoleSet) (s : State) :
    (judgeTrip poles opened s).pending = s.pending ∧ (judgeTrip poles opened s).power = s.power ∧
    (judgeTrip poles opened s).readsDone = s.readsDone ∧
    (judgeTrip poles opened s).clock = s.clock ∧ (judgeTrip poles opened s).meas = s.meas ∧
    (judgeTrip poles opened s).cfg = s.cfg ∧ (judgeTrip poles opened s).en = s.en ∧
    (judgeTrip poles opened s).tags = s.tags ∧ (judgeTrip poles opened s).bat = s.bat ∧
    (judgeTrip poles opened s).stage = s.stage ∧ (judgeTrip poles opened s).eq = s.eq ∧
    (judgeTrip poles opened s).rad = s.rad ∧ (judgeTrip poles opened s).cap = s.cap := by
  unfold judgeTrip; try dsimp only
  repeat' split
  all_goals simp

@[simp] theorem judgeRequest_frame (joined poles opened : PoleSet) (s : State) :
    (judgeRequest joined poles opened s).pending = s.pending ∧ (judgeRequest joined poles opened s).power = s.power ∧
    (judgeRequest joined poles opened s).readsDone = s.readsDone ∧
    (judgeRequest joined poles opened s).clock = s.clock ∧ (judgeRequest joined poles opened s).meas = s.meas ∧
    (judgeRequest joined poles opened s).cfg = s.cfg ∧ (judgeRequest joined poles opened s).en = s.en ∧
    (judgeRequest joined poles opened s).tags = s.tags ∧ (judgeRequest joined poles opened s).bat = s.bat ∧
    (judgeRequest joined poles opened s).stage = s.stage ∧ (judgeRequest joined poles opened s).eq = s.eq ∧
    (judgeRequest joined poles opened s).rad = s.rad ∧ (judgeRequest joined poles opened s).cap = s.cap := by
  unfold judgeRequest; try dsimp only
  repeat' split
  all_goals simp

@[simp] theorem judgeEnded_frame (x : List RetryGroup) (s : State) :
    (judgeEnded x s).pending = s.pending ∧ (judgeEnded x s).power = s.power ∧
    (judgeEnded x s).readsDone = s.readsDone ∧ (judgeEnded x s).clock = s.clock ∧
    (judgeEnded x s).meas = s.meas ∧ (judgeEnded x s).cfg = s.cfg ∧ (judgeEnded x s).en = s.en ∧
    (judgeEnded x s).tags = s.tags ∧ (judgeEnded x s).bat = s.bat ∧
    (judgeEnded x s).stage = s.stage ∧ (judgeEnded x s).eq = s.eq ∧ (judgeEnded x s).rad = s.rad ∧
    (judgeEnded x s).cap = s.cap := by
  induction x generalizing s <;> unfold judgeEnded <;> simp_all

@[simp] theorem dropRetries_frame (ps : PoleSet) (s : State) :
    (dropRetries ps s).pending = s.pending ∧ (dropRetries ps s).power = s.power ∧
    (dropRetries ps s).readsDone = s.readsDone ∧ (dropRetries ps s).clock = s.clock ∧
    (dropRetries ps s).meas = s.meas ∧ (dropRetries ps s).cfg = s.cfg ∧
    (dropRetries ps s).en = s.en ∧ (dropRetries ps s).tags = s.tags ∧
    (dropRetries ps s).bat = s.bat ∧ (dropRetries ps s).stage = s.stage ∧
    (dropRetries ps s).eq = s.eq ∧ (dropRetries ps s).rad = s.rad ∧ (dropRetries ps s).cap = s.cap := by
  unfold dropRetries; try dsimp only
  all_goals simp

@[simp] theorem endWithdrawn_frame (retried gone : PoleSet) (s : State) :
    (endWithdrawn retried gone s).pending = s.pending ∧ (endWithdrawn retried gone s).power = s.power ∧
    (endWithdrawn retried gone s).readsDone = s.readsDone ∧ (endWithdrawn retried gone s).clock = s.clock ∧
    (endWithdrawn retried gone s).meas = s.meas ∧ (endWithdrawn retried gone s).cfg = s.cfg ∧
    (endWithdrawn retried gone s).en = s.en ∧ (endWithdrawn retried gone s).tags = s.tags ∧
    (endWithdrawn retried gone s).bat = s.bat ∧ (endWithdrawn retried gone s).stage = s.stage ∧
    (endWithdrawn retried gone s).eq = s.eq ∧ (endWithdrawn retried gone s).rad = s.rad ∧ (endWithdrawn retried gone s).cap = s.cap := by
  unfold endWithdrawn; try dsimp only
  all_goals simp

@[simp] theorem takeWithdrawal_frame (kind : StrokeKind) (poles : PoleSet) (s : State) :
    (takeWithdrawal kind poles s).pending = s.pending ∧
    (takeWithdrawal kind poles s).power = s.power ∧
    (takeWithdrawal kind poles s).readsDone = s.readsDone ∧
    (takeWithdrawal kind poles s).clock = s.clock ∧ (takeWithdrawal kind poles s).meas = s.meas ∧
    (takeWithdrawal kind poles s).cfg = s.cfg ∧
    (takeWithdrawal kind poles s).tags = s.tags ∧ (takeWithdrawal kind poles s).bat = s.bat ∧
    (takeWithdrawal kind poles s).stage = s.stage ∧
    (takeWithdrawal kind poles s).eq = s.eq ∧
    (takeWithdrawal kind poles s).rad = s.rad ∧ (takeWithdrawal kind poles s).cap = s.cap := by
  unfold takeWithdrawal; try dsimp only
  repeat' split
  all_goals simp

@[simp] theorem levelShots_frame (s : State) :
    (levelShots s).pending = s.pending ∧ (levelShots s).power = s.power ∧
    (levelShots s).readsDone = s.readsDone ∧ (levelShots s).clock = s.clock ∧
    (levelShots s).meas = s.meas ∧ (levelShots s).cfg = s.cfg ∧ (levelShots s).en = s.en ∧
    (levelShots s).tags = s.tags ∧ (levelShots s).bat = s.bat ∧ (levelShots s).stage = s.stage ∧
    (levelShots s).eq = s.eq ∧ (levelShots s).rad = s.rad ∧ (levelShots s).cap = s.cap := by
  unfold levelShots; try dsimp only
  all_goals simp

@[simp] theorem joinPickups_frame (s : State) :
    (joinPickups s).pending = s.pending ∧ (joinPickups s).power = s.power ∧
    (joinPickups s).readsDone = s.readsDone ∧ (joinPickups s).clock = s.clock ∧
    (joinPickups s).meas = s.meas ∧ (joinPickups s).cfg = s.cfg ∧ (joinPickups s).en = s.en ∧
    (joinPickups s).tags = s.tags ∧ (joinPickups s).bat = s.bat ∧ (joinPickups s).stage = s.stage ∧
    (joinPickups s).eq = s.eq ∧ (joinPickups s).rad = s.rad ∧ (joinPickups s).cap = s.cap := by
  unfold joinPickups; try dsimp only
  (repeat' split) <;> simp_all

@[simp] theorem gangRecords_frame (s : State) :
    (gangRecords s).pending = s.pending ∧ (gangRecords s).power = s.power ∧
    (gangRecords s).readsDone = s.readsDone ∧ (gangRecords s).clock = s.clock ∧
    (gangRecords s).meas = s.meas ∧ (gangRecords s).cfg = s.cfg ∧ (gangRecords s).en = s.en ∧
    (gangRecords s).tags = s.tags ∧ (gangRecords s).bat = s.bat ∧ (gangRecords s).stage = s.stage ∧
    (gangRecords s).eq = s.eq ∧ (gangRecords s).rad = s.rad ∧ (gangRecords s).cap = s.cap := by
  unfold gangRecords; try dsimp only
  (repeat' split) <;> simp_all

@[simp] theorem changeTripMode_frame (old : TripMode) (s : State) :
    (changeTripMode old s).pending = s.pending ∧ (changeTripMode old s).power = s.power ∧
    (changeTripMode old s).readsDone = s.readsDone ∧ (changeTripMode old s).clock = s.clock ∧
    (changeTripMode old s).meas = s.meas ∧ (changeTripMode old s).cfg = s.cfg ∧
    (changeTripMode old s).en = s.en ∧ (changeTripMode old s).tags = s.tags ∧
    (changeTripMode old s).bat = s.bat ∧ (changeTripMode old s).stage = s.stage ∧
    (changeTripMode old s).eq = s.eq ∧ (changeTripMode old s).rad = s.rad ∧
    (changeTripMode old s).cap = s.cap := by
  unfold changeTripMode; try dsimp only
  repeat' split
  all_goals simp

@[simp] theorem commandTrip_frame (src : CmdSource) (set : PoleSet) (s : State) :
    (commandTrip src set s).pending = s.pending ∧ (commandTrip src set s).power = s.power ∧
    (commandTrip src set s).readsDone = s.readsDone ∧ (commandTrip src set s).clock = s.clock ∧
    (commandTrip src set s).meas = s.meas ∧ (commandTrip src set s).cfg = s.cfg ∧
    (commandTrip src set s).en = s.en ∧ (commandTrip src set s).tags = s.tags ∧
    (commandTrip src set s).bat = s.bat ∧ (commandTrip src set s).stage = s.stage ∧
    (commandTrip src set s).eq = s.eq ∧ (commandTrip src set s).rad = s.rad ∧
    (commandTrip src set s).cap = s.cap := by
  unfold commandTrip; try dsimp only
  all_goals simp

@[simp] theorem takeTripCommand_frame (src : CmdSource) (b : Byte) (s : State) :
    (takeTripCommand src b s).2.pending = s.pending ∧ (takeTripCommand src b s).2.power = s.power ∧
    (takeTripCommand src b s).2.readsDone = s.readsDone ∧
    (takeTripCommand src b s).2.clock = s.clock ∧ (takeTripCommand src b s).2.meas = s.meas ∧
    (takeTripCommand src b s).2.cfg = s.cfg ∧ (takeTripCommand src b s).2.en = s.en ∧
    (takeTripCommand src b s).2.tags = s.tags ∧ (takeTripCommand src b s).2.bat = s.bat ∧
    (takeTripCommand src b s).2.stage = s.stage ∧ (takeTripCommand src b s).2.eq = s.eq ∧
    (takeTripCommand src b s).2.rad = s.rad ∧ (takeTripCommand src b s).2.cap = s.cap := by
  unfold takeTripCommand; try dsimp only
  repeat' split
  all_goals simp

@[simp] theorem acceptClose_frame (src : CmdSource) (set : PoleSet) (s : State) :
    (acceptClose src set s).pending = s.pending ∧ (acceptClose src set s).power = s.power ∧
    (acceptClose src set s).readsDone = s.readsDone ∧ (acceptClose src set s).clock = s.clock ∧
    (acceptClose src set s).meas = s.meas ∧ (acceptClose src set s).cfg = s.cfg ∧
    (acceptClose src set s).en = s.en ∧ (acceptClose src set s).tags = s.tags ∧
    (acceptClose src set s).bat = s.bat ∧ (acceptClose src set s).stage = s.stage ∧
    (acceptClose src set s).eq = s.eq ∧ (acceptClose src set s).rad = s.rad ∧
    (acceptClose src set s).cap = s.cap := by
  unfold acceptClose; try dsimp only
  all_goals simp

@[simp] theorem blockClose_frame (src : CmdSource) (b : Byte) (code : ResultCode) (s : State) :
    (blockClose src b code s).pending = s.pending ∧ (blockClose src b code s).power = s.power ∧
    (blockClose src b code s).readsDone = s.readsDone ∧ (blockClose src b code s).clock = s.clock ∧
    (blockClose src b code s).meas = s.meas ∧ (blockClose src b code s).cfg = s.cfg ∧
    (blockClose src b code s).en = s.en ∧ (blockClose src b code s).tags = s.tags ∧
    (blockClose src b code s).bat = s.bat ∧ (blockClose src b code s).stage = s.stage ∧
    (blockClose src b code s).eq = s.eq ∧ (blockClose src b code s).rad = s.rad ∧
    (blockClose src b code s).cap = s.cap := by
  unfold blockClose; try dsimp only
  all_goals simp

@[simp] theorem takeCloseCommand_frame (src : CmdSource) (b : Byte) (s : State) :
    (takeCloseCommand src b s).2.pending = s.pending ∧
    (takeCloseCommand src b s).2.power = s.power ∧
    (takeCloseCommand src b s).2.readsDone = s.readsDone ∧
    (takeCloseCommand src b s).2.clock = s.clock ∧ (takeCloseCommand src b s).2.meas = s.meas ∧
    (takeCloseCommand src b s).2.cfg = s.cfg ∧ (takeCloseCommand src b s).2.en = s.en ∧
    (takeCloseCommand src b s).2.tags = s.tags ∧ (takeCloseCommand src b s).2.bat = s.bat ∧
    (takeCloseCommand src b s).2.stage = s.stage ∧ (takeCloseCommand src b s).2.eq = s.eq ∧
    (takeCloseCommand src b s).2.rad = s.rad ∧ (takeCloseCommand src b s).2.cap = s.cap := by
  unfold takeCloseCommand; try dsimp only
  repeat' split
  all_goals simp

@[simp] theorem setUpProtection_frame (s : State) :
    (setUpProtection s).pending = s.pending ∧ (setUpProtection s).power = s.power ∧
    (setUpProtection s).readsDone = s.readsDone ∧ (setUpProtection s).clock = s.clock ∧
    (setUpProtection s).meas = s.meas ∧ (setUpProtection s).cfg = s.cfg ∧
    (setUpProtection s).en = s.en ∧ (setUpProtection s).tags = s.tags ∧
    (setUpProtection s).bat = s.bat ∧ (setUpProtection s).stage = s.stage ∧
    (setUpProtection s).eq = s.eq ∧ (setUpProtection s).rad = s.rad ∧
    (setUpProtection s).cap = s.cap := by
  unfold setUpProtection; try dsimp only
  repeat' split
  all_goals simp


/-! ## Machine/Sequence -/

@[simp] theorem takeEntry_frame (m : MeasSet) (reached : Bool) (x : Report) (s : State) :
    (takeEntry m reached x s).pending = s.pending ∧ (takeEntry m reached x s).power = s.power ∧
    (takeEntry m reached x s).readsDone = s.readsDone ∧ (takeEntry m reached x s).clock = s.clock ∧
    (takeEntry m reached x s).meas = s.meas ∧ (takeEntry m reached x s).cfg = s.cfg ∧
    (takeEntry m reached x s).en = s.en ∧ (takeEntry m reached x s).tags = s.tags ∧
    (takeEntry m reached x s).bat = s.bat ∧ (takeEntry m reached x s).stage = s.stage ∧
    (takeEntry m reached x s).eq = s.eq ∧ (takeEntry m reached x s).rad = s.rad ∧
    (takeEntry m reached x s).cap = s.cap := by
  unfold takeEntry; try dsimp only
  repeat' split
  all_goals simp

@[simp] theorem takeEntries_frame (m : MeasSet) (reached : Bool) (x : List Report) (s : State) :
    (takeEntries m reached x s).pending = s.pending ∧ (takeEntries m reached x s).power = s.power ∧
    (takeEntries m reached x s).readsDone = s.readsDone ∧
    (takeEntries m reached x s).clock = s.clock ∧ (takeEntries m reached x s).meas = s.meas ∧
    (takeEntries m reached x s).cfg = s.cfg ∧ (takeEntries m reached x s).en = s.en ∧
    (takeEntries m reached x s).tags = s.tags ∧ (takeEntries m reached x s).bat = s.bat ∧
    (takeEntries m reached x s).stage = s.stage ∧ (takeEntries m reached x s).eq = s.eq ∧
    (takeEntries m reached x s).rad = s.rad ∧ (takeEntries m reached x s).cap = s.cap := by
  induction x generalizing s <;> unfold takeEntries <;> simp_all

@[simp] theorem triggerFor_frame (m : MeasSet) (entered : PoleSet) (s : State) :
    (triggerFor m entered s).pending = s.pending ∧ (triggerFor m entered s).power = s.power ∧
    (triggerFor m entered s).readsDone = s.readsDone ∧ (triggerFor m entered s).clock = s.clock ∧
    (triggerFor m entered s).meas = s.meas ∧ (triggerFor m entered s).cfg = s.cfg ∧
    (triggerFor m entered s).en = s.en ∧ (triggerFor m entered s).tags = s.tags ∧
    (triggerFor m entered s).bat = s.bat ∧ (triggerFor m entered s).stage = s.stage ∧
    (triggerFor m entered s).eq = s.eq ∧ (triggerFor m entered s).rad = s.rad := by
  unfold triggerFor; try dsimp only
  repeat' split
  all_goals simp

@[simp] theorem takeOperates_frame (r : EvalResult) (s : State) :
    (takeOperates r s).pending = s.pending ∧ (takeOperates r s).power = s.power ∧
    (takeOperates r s).readsDone = s.readsDone ∧ (takeOperates r s).clock = s.clock ∧
    (takeOperates r s).meas = s.meas ∧ (takeOperates r s).cfg = s.cfg ∧
    (takeOperates r s).en = s.en ∧ (takeOperates r s).tags = s.tags ∧
    (takeOperates r s).bat = s.bat ∧ (takeOperates r s).stage = s.stage ∧
    (takeOperates r s).eq = s.eq ∧ (takeOperates r s).rad = s.rad ∧ (takeOperates r s).cap = s.cap := by
  unfold takeOperates; try dsimp only
  repeat' split
  all_goals simp

@[simp] theorem judgeDropOuts_frame (r : EvalResult) (before : Tri ElementSet) (s : State) :
    (judgeDropOuts r before s).pending = s.pending ∧ (judgeDropOuts r before s).power = s.power ∧
    (judgeDropOuts r before s).readsDone = s.readsDone ∧
    (judgeDropOuts r before s).clock = s.clock ∧ (judgeDropOuts r before s).meas = s.meas ∧
    (judgeDropOuts r before s).cfg = s.cfg ∧ (judgeDropOuts r before s).en = s.en ∧
    (judgeDropOuts r before s).tags = s.tags ∧ (judgeDropOuts r before s).bat = s.bat ∧
    (judgeDropOuts r before s).stage = s.stage ∧ (judgeDropOuts r before s).eq = s.eq ∧
    (judgeDropOuts r before s).rad = s.rad ∧ (judgeDropOuts r before s).cap = s.cap := by
  unfold judgeDropOuts; try dsimp only
  repeat' split
  all_goals simp

@[simp] theorem takeResult_frame (r : EvalResult) (s : State) :
    (takeResult r s).pending = s.pending ∧ (takeResult r s).power = s.power ∧
    (takeResult r s).readsDone = s.readsDone ∧ (takeResult r s).clock = s.clock ∧
    (takeResult r s).meas = s.meas ∧ (takeResult r s).cfg = s.cfg ∧ (takeResult r s).en = s.en ∧
    (takeResult r s).tags = s.tags ∧ (takeResult r s).bat = s.bat ∧
    (takeResult r s).stage = s.stage ∧ (takeResult r s).eq = s.eq ∧ (takeResult r s).rad = s.rad := by
  unfold takeResult; try dsimp only
  all_goals simp

@[simp] theorem postCloses_frame (ps : PoleSet) (s : State) :
    (postCloses ps s).pending = s.pending ∧ (postCloses ps s).power = s.power ∧
    (postCloses ps s).readsDone = s.readsDone ∧ (postCloses ps s).clock = s.clock ∧
    (postCloses ps s).meas = s.meas ∧ (postCloses ps s).cfg = s.cfg ∧
    (postCloses ps s).seq = s.seq ∧ (postCloses ps s).en = s.en ∧ (postCloses ps s).tags = s.tags ∧
    (postCloses ps s).bat = s.bat ∧ (postCloses ps s).stage = s.stage ∧
    (postCloses ps s).eq = s.eq ∧ (postCloses ps s).rad = s.rad ∧ (postCloses ps s).cap = s.cap := by
  unfold postCloses; split
  · simp
  · generalize ps.poles = l
    induction l generalizing s <;> simp_all

@[simp] theorem resetRecords_frame (ps : PoleSet) (s : State) :
    (resetRecords ps s).pending = s.pending ∧ (resetRecords ps s).power = s.power ∧
    (resetRecords ps s).readsDone = s.readsDone ∧ (resetRecords ps s).clock = s.clock ∧
    (resetRecords ps s).meas = s.meas ∧ (resetRecords ps s).cfg = s.cfg ∧
    (resetRecords ps s).en = s.en ∧ (resetRecords ps s).tags = s.tags ∧
    (resetRecords ps s).bat = s.bat ∧ (resetRecords ps s).stage = s.stage ∧
    (resetRecords ps s).eq = s.eq ∧ (resetRecords ps s).rad = s.rad ∧
    (resetRecords ps s).cap = s.cap := by
  unfold resetRecords; try dsimp only
  repeat' split
  all_goals simp

@[simp] theorem summarise_frame (sig : TagSignal) (s : State) :
    (summarise sig s).pending = s.pending ∧ (summarise sig s).power = s.power ∧
    (summarise sig s).readsDone = s.readsDone ∧ (summarise sig s).clock = s.clock ∧
    (summarise sig s).meas = s.meas ∧ (summarise sig s).cfg = s.cfg ∧ (summarise sig s).en = s.en ∧
    (summarise sig s).tags = s.tags ∧ (summarise sig s).bat = s.bat ∧
    (summarise sig s).stage = s.stage ∧ (summarise sig s).eq = s.eq ∧
    (summarise sig s).rad = s.rad ∧ (summarise sig s).cap = s.cap := by
  unfold summarise; try dsimp only
  all_goals simp

@[simp] theorem takeTagSignal_frame (sig : TagSignal) (s : State) :
    (takeTagSignal sig s).pending = s.pending ∧ (takeTagSignal sig s).power = s.power ∧
    (takeTagSignal sig s).readsDone = s.readsDone ∧ (takeTagSignal sig s).clock = s.clock ∧
    (takeTagSignal sig s).meas = s.meas ∧ (takeTagSignal sig s).cfg = s.cfg ∧
    (takeTagSignal sig s).en = s.en ∧ (takeTagSignal sig s).tags = s.tags ∧
    (takeTagSignal sig s).bat = s.bat ∧ (takeTagSignal sig s).stage = s.stage ∧
    (takeTagSignal sig s).eq = s.eq ∧ (takeTagSignal sig s).rad = s.rad ∧
    (takeTagSignal sig s).cap = s.cap := by
  unfold takeTagSignal; try dsimp only
  all_goals simp

@[simp] theorem popSeqTag_frame (rest : List TagSignal) (s : State) :
    (popSeqTag rest s).pending = s.pending ∧ (popSeqTag rest s).power = s.power ∧
    (popSeqTag rest s).readsDone = s.readsDone ∧ (popSeqTag rest s).clock = s.clock ∧
    (popSeqTag rest s).meas = s.meas ∧ (popSeqTag rest s).cfg = s.cfg ∧
    (popSeqTag rest s).seq = s.seq ∧ (popSeqTag rest s).en = s.en ∧
    (popSeqTag rest s).tags = s.tags ∧ (popSeqTag rest s).bat = s.bat ∧
    (popSeqTag rest s).stage = s.stage ∧ (popSeqTag rest s).eq = s.eq ∧
    (popSeqTag rest s).rad = s.rad ∧ (popSeqTag rest s).cap = s.cap := by
  unfold popSeqTag; try dsimp only
  all_goals simp

@[simp] theorem servePoleTrip_frame (set : Byte) (id : Nat) (s : State) :
    (servePoleTrip set id s).pending = s.pending ∧ (servePoleTrip set id s).power = s.power ∧
    (servePoleTrip set id s).readsDone = s.readsDone ∧ (servePoleTrip set id s).clock = s.clock ∧
    (servePoleTrip set id s).meas = s.meas ∧ (servePoleTrip set id s).cfg = s.cfg ∧
    (servePoleTrip set id s).en = s.en ∧ (servePoleTrip set id s).tags = s.tags ∧
    (servePoleTrip set id s).bat = s.bat ∧ (servePoleTrip set id s).stage = s.stage ∧
    (servePoleTrip set id s).eq = s.eq ∧ (servePoleTrip set id s).rad = s.rad ∧
    (servePoleTrip set id s).cap = s.cap := by
  unfold servePoleTrip; try dsimp only
  all_goals simp

@[simp] theorem servePoleClose_frame (set : Byte) (id : Nat) (s : State) :
    (servePoleClose set id s).pending = s.pending ∧ (servePoleClose set id s).power = s.power ∧
    (servePoleClose set id s).readsDone = s.readsDone ∧ (servePoleClose set id s).clock = s.clock ∧
    (servePoleClose set id s).meas = s.meas ∧ (servePoleClose set id s).cfg = s.cfg ∧
    (servePoleClose set id s).en = s.en ∧ (servePoleClose set id s).tags = s.tags ∧
    (servePoleClose set id s).bat = s.bat ∧ (servePoleClose set id s).stage = s.stage ∧
    (servePoleClose set id s).eq = s.eq ∧ (servePoleClose set id s).rad = s.rad ∧
    (servePoleClose set id s).cap = s.cap := by
  unfold servePoleClose; try dsimp only
  all_goals simp

@[simp] theorem serveStatusClear_frame (id : Nat) (s : State) :
    (serveStatusClear id s).pending = s.pending ∧ (serveStatusClear id s).power = s.power ∧
    (serveStatusClear id s).readsDone = s.readsDone ∧ (serveStatusClear id s).clock = s.clock ∧
    (serveStatusClear id s).meas = s.meas ∧ (serveStatusClear id s).cfg = s.cfg ∧
    (serveStatusClear id s).en = s.en ∧ (serveStatusClear id s).tags = s.tags ∧
    (serveStatusClear id s).bat = s.bat ∧ (serveStatusClear id s).stage = s.stage ∧
    (serveStatusClear id s).eq = s.eq ∧ (serveStatusClear id s).rad = s.rad ∧
    (serveStatusClear id s).cap = s.cap := by
  unfold serveStatusClear; try dsimp only
  all_goals simp


/-! ## Machine/SequenceStrokes -/

@[simp] theorem popStroke_frame (rest : List StrokeMsg) (s : State) :
    (popStroke rest s).pending = s.pending ∧ (popStroke rest s).power = s.power ∧
    (popStroke rest s).readsDone = s.readsDone ∧ (popStroke rest s).clock = s.clock ∧
    (popStroke rest s).meas = s.meas ∧ (popStroke rest s).cfg = s.cfg ∧
    (popStroke rest s).seq = s.seq ∧ (popStroke rest s).en = s.en ∧
    (popStroke rest s).tags = s.tags ∧ (popStroke rest s).bat = s.bat ∧
    (popStroke rest s).stage = s.stage ∧ (popStroke rest s).eq = s.eq ∧
    (popStroke rest s).rad = s.rad ∧ (popStroke rest s).cap = s.cap := by
  unfold popStroke; try dsimp only
  all_goals simp

@[simp] theorem takeCloseGrant_frame (poles : PoleSet) (s : State) :
    (takeCloseGrant poles s).pending = s.pending ∧ (takeCloseGrant poles s).power = s.power ∧
    (takeCloseGrant poles s).readsDone = s.readsDone ∧ (takeCloseGrant poles s).clock = s.clock ∧
    (takeCloseGrant poles s).meas = s.meas ∧ (takeCloseGrant poles s).cfg = s.cfg ∧ (takeCloseGrant poles s).en = s.en ∧
    (takeCloseGrant poles s).tags = s.tags ∧ (takeCloseGrant poles s).bat = s.bat ∧ (takeCloseGrant poles s).stage = s.stage ∧
    (takeCloseGrant poles s).eq = s.eq ∧ (takeCloseGrant poles s).rad = s.rad ∧ (takeCloseGrant poles s).cap = s.cap := by
  unfold takeCloseGrant; try dsimp only
  repeat' split
  all_goals simp

@[simp] theorem takeGrant_frame (g : Grant) (s : State) :
    (takeGrant g s).pending = s.pending ∧ (takeGrant g s).power = s.power ∧
    (takeGrant g s).readsDone = s.readsDone ∧ (takeGrant g s).clock = s.clock ∧
    (takeGrant g s).meas = s.meas ∧ (takeGrant g s).cfg = s.cfg ∧ (takeGrant g s).en = s.en ∧
    (takeGrant g s).tags = s.tags ∧ (takeGrant g s).bat = s.bat ∧ (takeGrant g s).stage = s.stage ∧
    (takeGrant g s).eq = s.eq ∧ (takeGrant g s).rad = s.rad ∧ (takeGrant g s).cap = s.cap := by
  unfold takeGrant; try dsimp only
  repeat' split
  all_goals simp

@[simp] theorem takeRefusal_frame (poles : PoleSet) (reason : RefusalReason) (s : State) :
    (takeRefusal poles reason s).pending = s.pending ∧
    (takeRefusal poles reason s).power = s.power ∧
    (takeRefusal poles reason s).readsDone = s.readsDone ∧
    (takeRefusal poles reason s).clock = s.clock ∧ (takeRefusal poles reason s).meas = s.meas ∧
    (takeRefusal poles reason s).cfg = s.cfg ∧ (takeRefusal poles reason s).en = s.en ∧
    (takeRefusal poles reason s).tags = s.tags ∧ (takeRefusal poles reason s).bat = s.bat ∧
    (takeRefusal poles reason s).stage = s.stage ∧ (takeRefusal poles reason s).eq = s.eq ∧
    (takeRefusal poles reason s).rad = s.rad ∧ (takeRefusal poles reason s).cap = s.cap := by
  unfold takeRefusal; try dsimp only
  all_goals simp

@[simp] theorem openRecords_frame (reached lost : PoleSet) (s : State) :
    (openRecords reached lost s).pending = s.pending ∧ (openRecords reached lost s).power = s.power ∧
    (openRecords reached lost s).readsDone = s.readsDone ∧ (openRecords reached lost s).clock = s.clock ∧
    (openRecords reached lost s).meas = s.meas ∧ (openRecords reached lost s).cfg = s.cfg ∧
    (openRecords reached lost s).en = s.en ∧ (openRecords reached lost s).tags = s.tags ∧
    (openRecords reached lost s).bat = s.bat ∧ (openRecords reached lost s).stage = s.stage ∧
    (openRecords reached lost s).eq = s.eq ∧ (openRecords reached lost s).rad = s.rad ∧
    (openRecords reached lost s).cap = s.cap := by
  unfold openRecords; try dsimp only
  repeat' split
  all_goals simp

@[simp] theorem holdForRetry_frame (r : StrokeOutcome) (s : State) :
    (holdForRetry r s).pending = s.pending ∧ (holdForRetry r s).power = s.power ∧
    (holdForRetry r s).readsDone = s.readsDone ∧ (holdForRetry r s).clock = s.clock ∧
    (holdForRetry r s).meas = s.meas ∧ (holdForRetry r s).cfg = s.cfg ∧
    (holdForRetry r s).en = s.en ∧ (holdForRetry r s).tags = s.tags ∧
    (holdForRetry r s).bat = s.bat ∧ (holdForRetry r s).stage = s.stage ∧
    (holdForRetry r s).eq = s.eq ∧ (holdForRetry r s).rad = s.rad ∧ (holdForRetry r s).cap = s.cap := by
  unfold holdForRetry; try dsimp only
  repeat' split
  all_goals simp

@[simp] theorem finishTrip_frame (r : StrokeOutcome) (s : State) :
    (finishTrip r s).pending = s.pending ∧ (finishTrip r s).power = s.power ∧
    (finishTrip r s).readsDone = s.readsDone ∧ (finishTrip r s).clock = s.clock ∧
    (finishTrip r s).meas = s.meas ∧ (finishTrip r s).cfg = s.cfg ∧ (finishTrip r s).en = s.en ∧
    (finishTrip r s).tags = s.tags ∧ (finishTrip r s).bat = s.bat ∧
    (finishTrip r s).stage = s.stage ∧ (finishTrip r s).eq = s.eq ∧ (finishTrip r s).rad = s.rad ∧
    (finishTrip r s).cap = s.cap := by
  unfold finishTrip; try dsimp only
  repeat' split
  all_goals simp

@[simp] theorem finalTrip_frame (r : StrokeOutcome) (s : State) :
    (finalTrip r s).pending = s.pending ∧ (finalTrip r s).power = s.power ∧
    (finalTrip r s).readsDone = s.readsDone ∧ (finalTrip r s).clock = s.clock ∧
    (finalTrip r s).meas = s.meas ∧ (finalTrip r s).cfg = s.cfg ∧ (finalTrip r s).en = s.en ∧
    (finalTrip r s).tags = s.tags ∧ (finalTrip r s).bat = s.bat ∧ (finalTrip r s).stage = s.stage ∧
    (finalTrip r s).eq = s.eq ∧ (finalTrip r s).rad = s.rad ∧ (finalTrip r s).cap = s.cap := by
  unfold finalTrip; try dsimp only
  all_goals simp

@[simp] theorem raiseClosed_frame (src : CmdSource) (ps : PoleSet) (s : State) :
    (raiseClosed src ps s).pending = s.pending ∧ (raiseClosed src ps s).power = s.power ∧
    (raiseClosed src ps s).readsDone = s.readsDone ∧ (raiseClosed src ps s).clock = s.clock ∧
    (raiseClosed src ps s).meas = s.meas ∧ (raiseClosed src ps s).cfg = s.cfg ∧
    (raiseClosed src ps s).seq = s.seq ∧ (raiseClosed src ps s).en = s.en ∧
    (raiseClosed src ps s).tags = s.tags ∧ (raiseClosed src ps s).bat = s.bat ∧
    (raiseClosed src ps s).stage = s.stage ∧ (raiseClosed src ps s).eq = s.eq ∧
    (raiseClosed src ps s).rad = s.rad ∧ (raiseClosed src ps s).cap = s.cap := by
  unfold raiseClosed; try dsimp only
  repeat' split
  all_goals simp

@[simp] theorem raiseReclose_frame (ps : PoleSet) (s : State) :
    (raiseReclose ps s).pending = s.pending ∧ (raiseReclose ps s).power = s.power ∧
    (raiseReclose ps s).readsDone = s.readsDone ∧ (raiseReclose ps s).clock = s.clock ∧
    (raiseReclose ps s).meas = s.meas ∧ (raiseReclose ps s).cfg = s.cfg ∧
    (raiseReclose ps s).seq = s.seq ∧ (raiseReclose ps s).en = s.en ∧
    (raiseReclose ps s).tags = s.tags ∧ (raiseReclose ps s).bat = s.bat ∧
    (raiseReclose ps s).stage = s.stage ∧ (raiseReclose ps s).eq = s.eq ∧
    (raiseReclose ps s).rad = s.rad ∧ (raiseReclose ps s).cap = s.cap := by
  unfold raiseReclose; try dsimp only
  repeat' split
  all_goals simp

@[simp] theorem closeSucceeds_frame (ps : PoleSet) (s : State) :
    (closeSucceeds ps s).pending = s.pending ∧ (closeSucceeds ps s).power = s.power ∧
    (closeSucceeds ps s).readsDone = s.readsDone ∧ (closeSucceeds ps s).clock = s.clock ∧
    (closeSucceeds ps s).meas = s.meas ∧ (closeSucceeds ps s).cfg = s.cfg ∧
    (closeSucceeds ps s).en = s.en ∧ (closeSucceeds ps s).tags = s.tags ∧
    (closeSucceeds ps s).bat = s.bat ∧ (closeSucceeds ps s).stage = s.stage ∧
    (closeSucceeds ps s).eq = s.eq ∧ (closeSucceeds ps s).rad = s.rad ∧
    (closeSucceeds ps s).cap = s.cap := by
  unfold closeSucceeds; try dsimp only
  all_goals simp

@[simp] theorem takeCloseResult_frame (r : StrokeOutcome) (s : State) :
    (takeCloseResult r s).pending = s.pending ∧ (takeCloseResult r s).power = s.power ∧
    (takeCloseResult r s).readsDone = s.readsDone ∧ (takeCloseResult r s).clock = s.clock ∧
    (takeCloseResult r s).meas = s.meas ∧ (takeCloseResult r s).cfg = s.cfg ∧
    (takeCloseResult r s).en = s.en ∧ (takeCloseResult r s).tags = s.tags ∧
    (takeCloseResult r s).bat = s.bat ∧ (takeCloseResult r s).stage = s.stage ∧
    (takeCloseResult r s).eq = s.eq ∧ (takeCloseResult r s).rad = s.rad ∧
    (takeCloseResult r s).cap = s.cap := by
  unfold takeCloseResult; try dsimp only
  repeat' split
  all_goals simp

@[simp] theorem takeStrokeResult_frame (r : StrokeOutcome) (s : State) :
    (takeStrokeResult r s).pending = s.pending ∧ (takeStrokeResult r s).power = s.power ∧
    (takeStrokeResult r s).readsDone = s.readsDone ∧ (takeStrokeResult r s).clock = s.clock ∧
    (takeStrokeResult r s).meas = s.meas ∧ (takeStrokeResult r s).cfg = s.cfg ∧
    (takeStrokeResult r s).en = s.en ∧ (takeStrokeResult r s).tags = s.tags ∧
    (takeStrokeResult r s).bat = s.bat ∧ (takeStrokeResult r s).stage = s.stage ∧
    (takeStrokeResult r s).eq = s.eq ∧ (takeStrokeResult r s).rad = s.rad ∧
    (takeStrokeResult r s).cap = s.cap := by
  unfold takeStrokeResult; try dsimp only
  repeat' split
  all_goals simp

@[simp] theorem leverTrips_frame (s : State) :
    (leverTrips s).pending = s.pending ∧ (leverTrips s).power = s.power ∧
    (leverTrips s).readsDone = s.readsDone ∧ (leverTrips s).clock = s.clock ∧
    (leverTrips s).meas = s.meas ∧ (leverTrips s).cfg = s.cfg ∧ (leverTrips s).en = s.en ∧
    (leverTrips s).tags = s.tags ∧ (leverTrips s).bat = s.bat ∧ (leverTrips s).stage = s.stage ∧
    (leverTrips s).eq = s.eq ∧ (leverTrips s).rad = s.rad ∧ (leverTrips s).cap = s.cap := by
  unfold leverTrips; try dsimp only
  repeat' split
  all_goals simp

@[simp] theorem poleOpens_frame (p : Pole) (s : State) :
    (poleOpens p s).pending = s.pending ∧ (poleOpens p s).power = s.power ∧
    (poleOpens p s).readsDone = s.readsDone ∧ (poleOpens p s).clock = s.clock ∧
    (poleOpens p s).meas = s.meas ∧ (poleOpens p s).cfg = s.cfg ∧ (poleOpens p s).en = s.en ∧
    (poleOpens p s).tags = s.tags ∧ (poleOpens p s).bat = s.bat ∧ (poleOpens p s).stage = s.stage ∧
    (poleOpens p s).eq = s.eq ∧ (poleOpens p s).rad = s.rad ∧ (poleOpens p s).cap = s.cap := by
  unfold poleOpens; try dsimp only
  repeat' split
  all_goals simp

@[simp] theorem poleCloses_frame (p : Pole) (s : State) :
    (poleCloses p s).pending = s.pending ∧ (poleCloses p s).power = s.power ∧
    (poleCloses p s).readsDone = s.readsDone ∧ (poleCloses p s).clock = s.clock ∧
    (poleCloses p s).meas = s.meas ∧ (poleCloses p s).cfg = s.cfg ∧ (poleCloses p s).en = s.en ∧
    (poleCloses p s).tags = s.tags ∧ (poleCloses p s).bat = s.bat ∧
    (poleCloses p s).stage = s.stage ∧ (poleCloses p s).eq = s.eq ∧ (poleCloses p s).rad = s.rad ∧
    (poleCloses p s).cap = s.cap := by
  unfold poleCloses; try dsimp only
  repeat' split
  all_goals simp

@[simp] theorem takePoleChange_frame (p : Pole) (st : PoleState) (s : State) :
    (takePoleChange p st s).pending = s.pending ∧ (takePoleChange p st s).power = s.power ∧
    (takePoleChange p st s).readsDone = s.readsDone ∧ (takePoleChange p st s).clock = s.clock ∧
    (takePoleChange p st s).meas = s.meas ∧ (takePoleChange p st s).cfg = s.cfg ∧
    (takePoleChange p st s).en = s.en ∧ (takePoleChange p st s).tags = s.tags ∧
    (takePoleChange p st s).bat = s.bat ∧ (takePoleChange p st s).stage = s.stage ∧
    (takePoleChange p st s).eq = s.eq ∧ (takePoleChange p st s).rad = s.rad ∧
    (takePoleChange p st s).cap = s.cap := by
  unfold takePoleChange; try dsimp only
  repeat' split
  all_goals simp

end Sys2Proof.Machine
end

