-- ==== Sys2Proof/Laws/CareFrames.lean ====
section
/-! SUPPORT. What the operations of the tag controller, the optical port, the battery manager, the stores, the
stager and the radio controller leave alone. -/

namespace Sys2Proof.Machine

/-! ## Machine/SlowChannels -/

@[simp] theorem takeBadTemperature_frame (t : Int) (s : State) :
    (takeBadTemperature t s).pending = s.pending ∧ (takeBadTemperature t s).power = s.power ∧
    (takeBadTemperature t s).readsDone = s.readsDone ∧ (takeBadTemperature t s).clock = s.clock ∧
    (takeBadTemperature t s).cfg = s.cfg ∧ (takeBadTemperature t s).seq = s.seq ∧
    (takeBadTemperature t s).en = s.en ∧ (takeBadTemperature t s).tags = s.tags ∧
    (takeBadTemperature t s).bat = s.bat ∧ (takeBadTemperature t s).stage = s.stage ∧
    (takeBadTemperature t s).eq = s.eq ∧ (takeBadTemperature t s).rad = s.rad ∧
    (takeBadTemperature t s).cap = s.cap := by
  unfold takeBadTemperature; try dsimp only
  repeat' split
  all_goals simp

@[simp] theorem takeTemperature_frame (t : Int) (s : State) :
    (takeTemperature t s).pending = s.pending ∧ (takeTemperature t s).power = s.power ∧
    (takeTemperature t s).readsDone = s.readsDone ∧ (takeTemperature t s).clock = s.clock ∧
    (takeTemperature t s).cfg = s.cfg ∧ (takeTemperature t s).seq = s.seq ∧
    (takeTemperature t s).en = s.en ∧ (takeTemperature t s).tags = s.tags ∧
    (takeTemperature t s).bat = s.bat ∧ (takeTemperature t s).stage = s.stage ∧
    (takeTemperature t s).eq = s.eq ∧ (takeTemperature t s).rad = s.rad ∧
    (takeTemperature t s).cap = s.cap := by
  unfold takeTemperature; try dsimp only
  repeat' split
  all_goals simp

@[simp] theorem takeSamples_frame (vBatt iBatt vBank vSupply : Int) (s : State) :
    (takeSamples vBatt iBatt vBank vSupply s).pending = s.pending ∧
    (takeSamples vBatt iBatt vBank vSupply s).power = s.power ∧
    (takeSamples vBatt iBatt vBank vSupply s).readsDone = s.readsDone ∧
    (takeSamples vBatt iBatt vBank vSupply s).clock = s.clock ∧
    (takeSamples vBatt iBatt vBank vSupply s).cfg = s.cfg ∧
    (takeSamples vBatt iBatt vBank vSupply s).seq = s.seq ∧
    (takeSamples vBatt iBatt vBank vSupply s).en = s.en ∧
    (takeSamples vBatt iBatt vBank vSupply s).tags = s.tags ∧
    (takeSamples vBatt iBatt vBank vSupply s).bat = s.bat ∧
    (takeSamples vBatt iBatt vBank vSupply s).stage = s.stage ∧
    (takeSamples vBatt iBatt vBank vSupply s).eq = s.eq ∧
    (takeSamples vBatt iBatt vBank vSupply s).rad = s.rad ∧
    (takeSamples vBatt iBatt vBank vSupply s).cap = s.cap := by
  unfold takeSamples; try dsimp only
  all_goals simp

@[simp] theorem deliverAverages_frame (s : State) :
    (deliverAverages s).pending = s.pending ∧ (deliverAverages s).power = s.power ∧
    (deliverAverages s).readsDone = s.readsDone ∧ (deliverAverages s).clock = s.clock ∧
    (deliverAverages s).cfg = s.cfg ∧ (deliverAverages s).seq = s.seq ∧
    (deliverAverages s).en = s.en ∧ (deliverAverages s).tags = s.tags ∧
    (deliverAverages s).bat = s.bat ∧ (deliverAverages s).stage = s.stage ∧
    (deliverAverages s).eq = s.eq ∧ (deliverAverages s).rad = s.rad ∧
    (deliverAverages s).cap = s.cap := by
  unfold deliverAverages; try dsimp only
  all_goals simp


/-! ## Machine/TagOps -/

@[simp] theorem handTag_frame (sig : TagSignal) (s : State) :
    (handTag sig s).pending = s.pending ∧ (handTag sig s).power = s.power ∧
    (handTag sig s).readsDone = s.readsDone ∧ (handTag sig s).clock = s.clock ∧
    (handTag sig s).meas = s.meas ∧ (handTag sig s).cfg = s.cfg ∧ (handTag sig s).seq = s.seq ∧
    (handTag sig s).en = s.en ∧ (handTag sig s).tags = s.tags ∧ (handTag sig s).bat = s.bat ∧
    (handTag sig s).stage = s.stage ∧ (handTag sig s).eq = s.eq ∧ (handTag sig s).rad = s.rad ∧
    (handTag sig s).cap = s.cap := by
  unfold handTag; try dsimp only
  all_goals simp

@[simp] theorem handArming_frame (armed : Bool) (s : State) :
    (handArming armed s).pending = s.pending ∧ (handArming armed s).power = s.power ∧
    (handArming armed s).readsDone = s.readsDone ∧ (handArming armed s).clock = s.clock ∧
    (handArming armed s).meas = s.meas ∧ (handArming armed s).cfg = s.cfg ∧
    (handArming armed s).seq = s.seq ∧ (handArming armed s).en = s.en ∧
    (handArming armed s).tags = s.tags ∧ (handArming armed s).bat = s.bat ∧
    (handArming armed s).stage = s.stage ∧ (handArming armed s).eq = s.eq ∧
    (handArming armed s).rad = s.rad ∧ (handArming armed s).cap = s.cap := by
  unfold handArming; try dsimp only
  all_goals simp

@[simp] theorem sendOptical_frame (frame : Nat) (code : ResultCode) (lines : Option (List TagLine)) (s : State) :
    (sendOptical frame code lines s).pending = s.pending ∧
    (sendOptical frame code lines s).power = s.power ∧
    (sendOptical frame code lines s).readsDone = s.readsDone ∧
    (sendOptical frame code lines s).clock = s.clock ∧
    (sendOptical frame code lines s).meas = s.meas ∧ (sendOptical frame code lines s).cfg = s.cfg ∧
    (sendOptical frame code lines s).seq = s.seq ∧ (sendOptical frame code lines s).en = s.en ∧
    (sendOptical frame code lines s).tags = s.tags ∧ (sendOptical frame code lines s).bat = s.bat ∧
    (sendOptical frame code lines s).stage = s.stage ∧ (sendOptical frame code lines s).eq = s.eq ∧
    (sendOptical frame code lines s).rad = s.rad ∧ (sendOptical frame code lines s).cap = s.cap := by
  unfold sendOptical; try dsimp only
  repeat' split
  all_goals simp

@[simp] theorem replySource_frame (replyDest : ReplyTo) (code : ResultCode) (s : State) :
    (replySource replyDest code s).pending = s.pending ∧ (replySource replyDest code s).power = s.power ∧
    (replySource replyDest code s).readsDone = s.readsDone ∧ (replySource replyDest code s).clock = s.clock ∧
    (replySource replyDest code s).meas = s.meas ∧ (replySource replyDest code s).cfg = s.cfg ∧
    (replySource replyDest code s).seq = s.seq ∧ (replySource replyDest code s).en = s.en ∧
    (replySource replyDest code s).tags = s.tags ∧ (replySource replyDest code s).bat = s.bat ∧
    (replySource replyDest code s).stage = s.stage ∧ (replySource replyDest code s).cap = s.cap := by
  unfold replySource; try dsimp only
  repeat' split
  all_goals simp

@[simp] theorem acceptPlacement_frame (src : TagSource) (k : TagKind) (crew : Nat) (replyDest : ReplyTo) (s : State) :
    (acceptPlacement src k crew replyDest s).pending = s.pending ∧
    (acceptPlacement src k crew replyDest s).power = s.power ∧
    (acceptPlacement src k crew replyDest s).readsDone = s.readsDone ∧
    (acceptPlacement src k crew replyDest s).clock = s.clock ∧
    (acceptPlacement src k crew replyDest s).cfg = s.cfg ∧ (acceptPlacement src k crew replyDest s).seq = s.seq ∧
    (acceptPlacement src k crew replyDest s).bat = s.bat ∧
    (acceptPlacement src k crew replyDest s).stage = s.stage ∧
    (acceptPlacement src k crew replyDest s).eq = s.eq ∧ (acceptPlacement src k crew replyDest s).rad = s.rad ∧
    (acceptPlacement src k crew replyDest s).cap = s.cap := by
  unfold acceptPlacement; try dsimp only
  repeat' split
  all_goals simp

@[simp] theorem takePlacement_frame (src : TagSource) (k : TagKind) (crew : Nat) (replyDest : ReplyTo) (s : State) :
    (takePlacement src k crew replyDest s).pending = s.pending ∧
    (takePlacement src k crew replyDest s).power = s.power ∧
    (takePlacement src k crew replyDest s).readsDone = s.readsDone ∧
    (takePlacement src k crew replyDest s).clock = s.clock ∧ (takePlacement src k crew replyDest s).cfg = s.cfg ∧
    (takePlacement src k crew replyDest s).seq = s.seq ∧ (takePlacement src k crew replyDest s).bat = s.bat ∧
    (takePlacement src k crew replyDest s).stage = s.stage ∧ (takePlacement src k crew replyDest s).cap = s.cap := by
  unfold takePlacement; try dsimp only
  repeat' split
  all_goals simp

@[simp] theorem acceptRemoval_frame (src : TagSource) (crew index : Nat) (supervisor : Bool) (replyDest : ReplyTo) (s : State) :
    (acceptRemoval src crew index supervisor replyDest s).pending = s.pending ∧
    (acceptRemoval src crew index supervisor replyDest s).power = s.power ∧
    (acceptRemoval src crew index supervisor replyDest s).readsDone = s.readsDone ∧
    (acceptRemoval src crew index supervisor replyDest s).clock = s.clock ∧
    (acceptRemoval src crew index supervisor replyDest s).cfg = s.cfg ∧
    (acceptRemoval src crew index supervisor replyDest s).seq = s.seq ∧
    (acceptRemoval src crew index supervisor replyDest s).bat = s.bat ∧
    (acceptRemoval src crew index supervisor replyDest s).stage = s.stage ∧
    (acceptRemoval src crew index supervisor replyDest s).eq = s.eq ∧
    (acceptRemoval src crew index supervisor replyDest s).rad = s.rad ∧
    (acceptRemoval src crew index supervisor replyDest s).cap = s.cap := by
  unfold acceptRemoval; try dsimp only
  all_goals simp

@[simp] theorem removePendingHold_frame (src : TagSource) (crew : Nat) (supervisor : Bool) (replyDest : ReplyTo) (s : State) :
    (removePendingHold src crew supervisor replyDest s).pending = s.pending ∧
    (removePendingHold src crew supervisor replyDest s).power = s.power ∧
    (removePendingHold src crew supervisor replyDest s).readsDone = s.readsDone ∧
    (removePendingHold src crew supervisor replyDest s).clock = s.clock ∧
    (removePendingHold src crew supervisor replyDest s).meas = s.meas ∧
    (removePendingHold src crew supervisor replyDest s).cfg = s.cfg ∧
    (removePendingHold src crew supervisor replyDest s).seq = s.seq ∧
    (removePendingHold src crew supervisor replyDest s).en = s.en ∧
    (removePendingHold src crew supervisor replyDest s).bat = s.bat ∧
    (removePendingHold src crew supervisor replyDest s).stage = s.stage ∧
    (removePendingHold src crew supervisor replyDest s).cap = s.cap := by
  unfold removePendingHold; try dsimp only
  all_goals simp

@[simp] theorem takeRemoval_frame (src : TagSource) (k : TagKind) (crew : Nat) (replyDest : ReplyTo) (s : State) :
    (takeRemoval src k crew replyDest s).pending = s.pending ∧
    (takeRemoval src k crew replyDest s).power = s.power ∧
    (takeRemoval src k crew replyDest s).readsDone = s.readsDone ∧
    (takeRemoval src k crew replyDest s).clock = s.clock ∧ (takeRemoval src k crew replyDest s).cfg = s.cfg ∧
    (takeRemoval src k crew replyDest s).seq = s.seq ∧ (takeRemoval src k crew replyDest s).bat = s.bat ∧
    (takeRemoval src k crew replyDest s).stage = s.stage ∧ (takeRemoval src k crew replyDest s).cap = s.cap := by
  unfold takeRemoval; try dsimp only
  repeat' split
  all_goals simp

@[simp] theorem setHoldPending_frame (s : State) :
    (setHoldPending s).pending = s.pending ∧ (setHoldPending s).power = s.power ∧
    (setHoldPending s).readsDone = s.readsDone ∧ (setHoldPending s).clock = s.clock ∧
    (setHoldPending s).meas = s.meas ∧ (setHoldPending s).cfg = s.cfg ∧
    (setHoldPending s).seq = s.seq ∧ (setHoldPending s).en = s.en ∧
    (setHoldPending s).bat = s.bat ∧ (setHoldPending s).stage = s.stage ∧
    (setHoldPending s).eq = s.eq ∧ (setHoldPending s).rad = s.rad ∧ (setHoldPending s).cap = s.cap := by
  unfold setHoldPending; try dsimp only
  all_goals simp

@[simp] theorem placeSystemHold_frame (s : State) :
    (placeSystemHold s).pending = s.pending ∧ (placeSystemHold s).power = s.power ∧
    (placeSystemHold s).readsDone = s.readsDone ∧ (placeSystemHold s).clock = s.clock ∧
    (placeSystemHold s).cfg = s.cfg ∧ (placeSystemHold s).seq = s.seq ∧
    (placeSystemHold s).bat = s.bat ∧ (placeSystemHold s).stage = s.stage ∧
    (placeSystemHold s).eq = s.eq ∧ (placeSystemHold s).rad = s.rad ∧
    (placeSystemHold s).cap = s.cap := by
  unfold placeSystemHold; try dsimp only
  repeat' split
  all_goals simp

@[simp] theorem reportPlacement_frame (e : TagEntry) (code : ResultCode) (retained : Bool) (s : State) :
    (reportPlacement e code retained s).pending = s.pending ∧
    (reportPlacement e code retained s).power = s.power ∧
    (reportPlacement e code retained s).readsDone = s.readsDone ∧
    (reportPlacement e code retained s).clock = s.clock ∧
    (reportPlacement e code retained s).meas = s.meas ∧
    (reportPlacement e code retained s).cfg = s.cfg ∧
    (reportPlacement e code retained s).seq = s.seq ∧
    (reportPlacement e code retained s).en = s.en ∧
    (reportPlacement e code retained s).tags = s.tags ∧
    (reportPlacement e code retained s).bat = s.bat ∧
    (reportPlacement e code retained s).stage = s.stage ∧
    (reportPlacement e code retained s).cap = s.cap := by
  unfold reportPlacement; try dsimp only
  all_goals simp

@[simp] theorem reportEntry_frame (fault : Bool) (e : TagEntry) (s : State) :
    (reportEntry fault e s).pending = s.pending ∧ (reportEntry fault e s).power = s.power ∧
    (reportEntry fault e s).readsDone = s.readsDone ∧ (reportEntry fault e s).clock = s.clock ∧
    (reportEntry fault e s).meas = s.meas ∧ (reportEntry fault e s).cfg = s.cfg ∧
    (reportEntry fault e s).seq = s.seq ∧ (reportEntry fault e s).en = s.en ∧
    (reportEntry fault e s).tags = s.tags ∧ (reportEntry fault e s).bat = s.bat ∧
    (reportEntry fault e s).stage = s.stage ∧ (reportEntry fault e s).cap = s.cap := by
  unfold reportEntry; try dsimp only
  repeat' split
  all_goals simp

@[simp] theorem reportPlacements_frame (fault : Bool) (x : List TagEntry) (s : State) :
    (reportPlacements fault x s).pending = s.pending ∧
    (reportPlacements fault x s).power = s.power ∧
    (reportPlacements fault x s).readsDone = s.readsDone ∧
    (reportPlacements fault x s).clock = s.clock ∧ (reportPlacements fault x s).meas = s.meas ∧
    (reportPlacements fault x s).cfg = s.cfg ∧ (reportPlacements fault x s).seq = s.seq ∧
    (reportPlacements fault x s).en = s.en ∧ (reportPlacements fault x s).tags = s.tags ∧
    (reportPlacements fault x s).bat = s.bat ∧ (reportPlacements fault x s).stage = s.stage ∧
    (reportPlacements fault x s).cap = s.cap := by
  induction x generalizing s <;> unfold reportPlacements <;> simp_all

@[simp] theorem reportRemoval_frame (fault : Bool) (e : TagEntry) (s : State) :
    (reportRemoval fault e s).pending = s.pending ∧ (reportRemoval fault e s).power = s.power ∧
    (reportRemoval fault e s).readsDone = s.readsDone ∧ (reportRemoval fault e s).clock = s.clock ∧
    (reportRemoval fault e s).meas = s.meas ∧ (reportRemoval fault e s).cfg = s.cfg ∧
    (reportRemoval fault e s).seq = s.seq ∧ (reportRemoval fault e s).en = s.en ∧
    (reportRemoval fault e s).tags = s.tags ∧ (reportRemoval fault e s).bat = s.bat ∧
    (reportRemoval fault e s).stage = s.stage ∧ (reportRemoval fault e s).cap = s.cap := by
  unfold reportRemoval; try dsimp only
  repeat' split
  all_goals simp

@[simp] theorem dropEntry_frame (fault : Bool) (e : TagEntry) (s : State) :
    (dropEntry fault e s).pending = s.pending ∧ (dropEntry fault e s).power = s.power ∧
    (dropEntry fault e s).readsDone = s.readsDone ∧ (dropEntry fault e s).clock = s.clock ∧
    (dropEntry fault e s).meas = s.meas ∧ (dropEntry fault e s).cfg = s.cfg ∧
    (dropEntry fault e s).seq = s.seq ∧ (dropEntry fault e s).en = s.en ∧
    (dropEntry fault e s).bat = s.bat ∧ (dropEntry fault e s).stage = s.stage ∧
    (dropEntry fault e s).cap = s.cap := by
  unfold dropEntry; try dsimp only
  repeat' split
  all_goals simp

@[simp] theorem dropEntries_frame (fault : Bool) (x : List TagEntry) (s : State) :
    (dropEntries fault x s).pending = s.pending ∧ (dropEntries fault x s).power = s.power ∧
    (dropEntries fault x s).readsDone = s.readsDone ∧ (dropEntries fault x s).clock = s.clock ∧
    (dropEntries fault x s).meas = s.meas ∧ (dropEntries fault x s).cfg = s.cfg ∧
    (dropEntries fault x s).seq = s.seq ∧ (dropEntries fault x s).en = s.en ∧
    (dropEntries fault x s).bat = s.bat ∧ (dropEntries fault x s).stage = s.stage ∧
    (dropEntries fault x s).cap = s.cap := by
  induction x generalizing s <;> unfold dropEntries <;> simp_all

@[simp] theorem fillPendingHold_frame (s : State) :
    (fillPendingHold s).pending = s.pending ∧ (fillPendingHold s).power = s.power ∧
    (fillPendingHold s).readsDone = s.readsDone ∧ (fillPendingHold s).clock = s.clock ∧
    (fillPendingHold s).cfg = s.cfg ∧ (fillPendingHold s).seq = s.seq ∧
    (fillPendingHold s).bat = s.bat ∧ (fillPendingHold s).stage = s.stage ∧
    (fillPendingHold s).eq = s.eq ∧ (fillPendingHold s).rad = s.rad ∧
    (fillPendingHold s).cap = s.cap := by
  unfold fillPendingHold; try dsimp only
  repeat' split
  all_goals simp

@[simp] theorem completeTags_frame (fault : Bool) (s : State) :
    (completeTags fault s).pending = s.pending ∧ (completeTags fault s).power = s.power ∧
    (completeTags fault s).readsDone = s.readsDone ∧ (completeTags fault s).clock = s.clock ∧
    (completeTags fault s).cfg = s.cfg ∧ (completeTags fault s).seq = s.seq ∧
    (completeTags fault s).bat = s.bat ∧ (completeTags fault s).stage = s.stage ∧
    (completeTags fault s).cap = s.cap := by
  unfold completeTags; try dsimp only
  repeat' split
  all_goals simp


/-! ## Machine/Tags -/

@[simp] theorem serveTagPlace_frame (kind : Byte) (crew : Half) (id : Nat) (s : State) :
    (serveTagPlace kind crew id s).pending = s.pending ∧
    (serveTagPlace kind crew id s).power = s.power ∧
    (serveTagPlace kind crew id s).readsDone = s.readsDone ∧
    (serveTagPlace kind crew id s).clock = s.clock ∧ (serveTagPlace kind crew id s).cfg = s.cfg ∧
    (serveTagPlace kind crew id s).seq = s.seq ∧ (serveTagPlace kind crew id s).bat = s.bat ∧
    (serveTagPlace kind crew id s).stage = s.stage ∧ (serveTagPlace kind crew id s).cap = s.cap := by
  unfold serveTagPlace; try dsimp only
  repeat' split
  all_goals simp

@[simp] theorem serveTagRemove_frame (kind : Byte) (crew : Half) (id : Nat) (s : State) :
    (serveTagRemove kind crew id s).pending = s.pending ∧
    (serveTagRemove kind crew id s).power = s.power ∧
    (serveTagRemove kind crew id s).readsDone = s.readsDone ∧
    (serveTagRemove kind crew id s).clock = s.clock ∧ (serveTagRemove kind crew id s).cfg = s.cfg ∧
    (serveTagRemove kind crew id s).seq = s.seq ∧ (serveTagRemove kind crew id s).bat = s.bat ∧
    (serveTagRemove kind crew id s).stage = s.stage ∧ (serveTagRemove kind crew id s).cap = s.cap := by
  unfold serveTagRemove; try dsimp only
  repeat' split
  all_goals simp

@[simp] theorem serveTagList_frame (id : Nat) (s : State) :
    (serveTagList id s).pending = s.pending ∧ (serveTagList id s).power = s.power ∧
    (serveTagList id s).readsDone = s.readsDone ∧ (serveTagList id s).clock = s.clock ∧
    (serveTagList id s).meas = s.meas ∧ (serveTagList id s).cfg = s.cfg ∧
    (serveTagList id s).seq = s.seq ∧ (serveTagList id s).en = s.en ∧
    (serveTagList id s).tags = s.tags ∧ (serveTagList id s).bat = s.bat ∧
    (serveTagList id s).stage = s.stage ∧ (serveTagList id s).eq = s.eq ∧
    (serveTagList id s).rad = s.rad ∧ (serveTagList id s).cap = s.cap := by
  unfold serveTagList; try dsimp only
  all_goals simp


/-! ## Machine/BatteryOps -/

@[simp] theorem computeTargets_frame (s : State) :
    (computeTargets s).pending = s.pending ∧ (computeTargets s).power = s.power ∧
    (computeTargets s).readsDone = s.readsDone ∧ (computeTargets s).clock = s.clock ∧
    (computeTargets s).meas = s.meas ∧ (computeTargets s).cfg = s.cfg ∧
    (computeTargets s).seq = s.seq ∧ (computeTargets s).en = s.en ∧
    (computeTargets s).tags = s.tags ∧ (computeTargets s).stage = s.stage ∧
    (computeTargets s).eq = s.eq ∧ (computeTargets s).rad = s.rad ∧ (computeTargets s).cap = s.cap := by
  unfold computeTargets; try dsimp only
  repeat' split
  all_goals simp

@[simp] theorem beginTest_frame (s : State) :
    (beginTest s).pending = s.pending ∧ (beginTest s).power = s.power ∧
    (beginTest s).readsDone = s.readsDone ∧ (beginTest s).clock = s.clock ∧
    (beginTest s).meas = s.meas ∧ (beginTest s).cfg = s.cfg ∧ (beginTest s).seq = s.seq ∧
    (beginTest s).en = s.en ∧ (beginTest s).tags = s.tags ∧ (beginTest s).stage = s.stage ∧
    (beginTest s).eq = s.eq ∧ (beginTest s).rad = s.rad ∧ (beginTest s).cap = s.cap := by
  unfold beginTest; try dsimp only
  all_goals simp

@[simp] theorem judgeGate_frame (s : State) :
    (judgeGate s).pending = s.pending ∧ (judgeGate s).power = s.power ∧
    (judgeGate s).readsDone = s.readsDone ∧ (judgeGate s).clock = s.clock ∧
    (judgeGate s).meas = s.meas ∧ (judgeGate s).cfg = s.cfg ∧ (judgeGate s).seq = s.seq ∧
    (judgeGate s).en = s.en ∧ (judgeGate s).tags = s.tags ∧ (judgeGate s).stage = s.stage ∧
    (judgeGate s).eq = s.eq ∧ (judgeGate s).rad = s.rad ∧ (judgeGate s).cap = s.cap := by
  unfold judgeGate; try dsimp only
  repeat' split
  all_goals simp

@[simp] theorem chargerBySupply_frame (s : State) :
    (chargerBySupply s).pending = s.pending ∧ (chargerBySupply s).power = s.power ∧
    (chargerBySupply s).readsDone = s.readsDone ∧ (chargerBySupply s).clock = s.clock ∧
    (chargerBySupply s).meas = s.meas ∧ (chargerBySupply s).cfg = s.cfg ∧
    (chargerBySupply s).seq = s.seq ∧ (chargerBySupply s).en = s.en ∧
    (chargerBySupply s).tags = s.tags ∧ (chargerBySupply s).stage = s.stage ∧
    (chargerBySupply s).eq = s.eq ∧ (chargerBySupply s).rad = s.rad ∧
    (chargerBySupply s).cap = s.cap := by
  unfold chargerBySupply; try dsimp only
  all_goals simp

@[simp] theorem supplyMoves_frame (present : Bool) (s : State) :
    (supplyMoves present s).pending = s.pending ∧ (supplyMoves present s).power = s.power ∧
    (supplyMoves present s).readsDone = s.readsDone ∧ (supplyMoves present s).clock = s.clock ∧
    (supplyMoves present s).meas = s.meas ∧ (supplyMoves present s).cfg = s.cfg ∧
    (supplyMoves present s).seq = s.seq ∧ (supplyMoves present s).en = s.en ∧
    (supplyMoves present s).tags = s.tags ∧ (supplyMoves present s).stage = s.stage ∧
    (supplyMoves present s).eq = s.eq ∧ (supplyMoves present s).rad = s.rad ∧
    (supplyMoves present s).cap = s.cap := by
  unfold supplyMoves; try dsimp only
  repeat' split
  all_goals simp

@[simp] theorem enterAbsorb_frame (s : State) :
    (enterAbsorb s).pending = s.pending ∧ (enterAbsorb s).power = s.power ∧
    (enterAbsorb s).readsDone = s.readsDone ∧ (enterAbsorb s).clock = s.clock ∧
    (enterAbsorb s).meas = s.meas ∧ (enterAbsorb s).cfg = s.cfg ∧ (enterAbsorb s).seq = s.seq ∧
    (enterAbsorb s).en = s.en ∧ (enterAbsorb s).tags = s.tags ∧ (enterAbsorb s).stage = s.stage ∧
    (enterAbsorb s).eq = s.eq ∧ (enterAbsorb s).rad = s.rad ∧ (enterAbsorb s).cap = s.cap := by
  unfold enterAbsorb; try dsimp only
  all_goals simp

@[simp] theorem enterFloat_frame (s : State) :
    (enterFloat s).pending = s.pending ∧ (enterFloat s).power = s.power ∧
    (enterFloat s).readsDone = s.readsDone ∧ (enterFloat s).clock = s.clock ∧
    (enterFloat s).meas = s.meas ∧ (enterFloat s).cfg = s.cfg ∧ (enterFloat s).seq = s.seq ∧
    (enterFloat s).en = s.en ∧ (enterFloat s).tags = s.tags ∧ (enterFloat s).stage = s.stage ∧
    (enterFloat s).eq = s.eq ∧ (enterFloat s).rad = s.rad ∧ (enterFloat s).cap = s.cap := by
  unfold enterFloat; try dsimp only
  all_goals simp

@[simp] theorem judgeTail_frame (i : Int) (s : State) :
    (judgeTail i s).pending = s.pending ∧ (judgeTail i s).power = s.power ∧
    (judgeTail i s).readsDone = s.readsDone ∧ (judgeTail i s).clock = s.clock ∧
    (judgeTail i s).meas = s.meas ∧ (judgeTail i s).cfg = s.cfg ∧ (judgeTail i s).seq = s.seq ∧
    (judgeTail i s).en = s.en ∧ (judgeTail i s).tags = s.tags ∧ (judgeTail i s).stage = s.stage ∧
    (judgeTail i s).eq = s.eq ∧ (judgeTail i s).rad = s.rad ∧ (judgeTail i s).cap = s.cap := by
  unfold judgeTail; try dsimp only
  repeat' split
  all_goals simp

@[simp] theorem judgeSag_frame (v float : Int) (s : State) :
    (judgeSag v float s).pending = s.pending ∧ (judgeSag v float s).power = s.power ∧
    (judgeSag v float s).readsDone = s.readsDone ∧ (judgeSag v float s).clock = s.clock ∧
    (judgeSag v float s).meas = s.meas ∧ (judgeSag v float s).cfg = s.cfg ∧
    (judgeSag v float s).seq = s.seq ∧ (judgeSag v float s).en = s.en ∧
    (judgeSag v float s).tags = s.tags ∧ (judgeSag v float s).stage = s.stage ∧
    (judgeSag v float s).eq = s.eq ∧ (judgeSag v float s).rad = s.rad ∧
    (judgeSag v float s).cap = s.cap := by
  unfold judgeSag; try dsimp only
  repeat' split
  all_goals simp

@[simp] theorem reportTest_frame (r : TestRecord) (s : State) :
    (reportTest r s).pending = s.pending ∧ (reportTest r s).power = s.power ∧
    (reportTest r s).readsDone = s.readsDone ∧ (reportTest r s).clock = s.clock ∧
    (reportTest r s).meas = s.meas ∧ (reportTest r s).cfg = s.cfg ∧ (reportTest r s).seq = s.seq ∧
    (reportTest r s).en = s.en ∧ (reportTest r s).tags = s.tags ∧
    (reportTest r s).stage = s.stage ∧ (reportTest r s).eq = s.eq ∧ (reportTest r s).rad = s.rad ∧
    (reportTest r s).cap = s.cap := by
  unfold reportTest; try dsimp only
  all_goals simp

@[simp] theorem endTest_frame (s : State) :
    (endTest s).pending = s.pending ∧ (endTest s).power = s.power ∧
    (endTest s).readsDone = s.readsDone ∧ (endTest s).clock = s.clock ∧ (endTest s).meas = s.meas ∧
    (endTest s).cfg = s.cfg ∧ (endTest s).seq = s.seq ∧ (endTest s).en = s.en ∧
    (endTest s).tags = s.tags ∧ (endTest s).stage = s.stage ∧ (endTest s).eq = s.eq ∧
    (endTest s).rad = s.rad ∧ (endTest s).cap = s.cap := by
  unfold endTest; try dsimp only
  all_goals simp

@[simp] theorem afterAbort_frame (cause : AbortCause) (s : State) :
    (afterAbort cause s).pending = s.pending ∧ (afterAbort cause s).power = s.power ∧
    (afterAbort cause s).readsDone = s.readsDone ∧ (afterAbort cause s).clock = s.clock ∧
    (afterAbort cause s).meas = s.meas ∧ (afterAbort cause s).cfg = s.cfg ∧
    (afterAbort cause s).seq = s.seq ∧ (afterAbort cause s).en = s.en ∧
    (afterAbort cause s).tags = s.tags ∧ (afterAbort cause s).stage = s.stage ∧
    (afterAbort cause s).eq = s.eq ∧ (afterAbort cause s).rad = s.rad ∧
    (afterAbort cause s).cap = s.cap := by
  unfold afterAbort; try dsimp only
  repeat' split
  all_goals simp

@[simp] theorem abortTest_frame (cause : AbortCause) (s : State) :
    (abortTest cause s).pending = s.pending ∧ (abortTest cause s).power = s.power ∧
    (abortTest cause s).readsDone = s.readsDone ∧ (abortTest cause s).clock = s.clock ∧
    (abortTest cause s).meas = s.meas ∧ (abortTest cause s).cfg = s.cfg ∧
    (abortTest cause s).seq = s.seq ∧ (abortTest cause s).en = s.en ∧
    (abortTest cause s).tags = s.tags ∧ (abortTest cause s).stage = s.stage ∧
    (abortTest cause s).eq = s.eq ∧ (abortTest cause s).rad = s.rad ∧
    (abortTest cause s).cap = s.cap := by
  unfold abortTest; try dsimp only
  repeat' split
  all_goals simp

@[simp] theorem dropWaiting_frame (s : State) :
    (dropWaiting s).pending = s.pending ∧ (dropWaiting s).power = s.power ∧
    (dropWaiting s).readsDone = s.readsDone ∧ (dropWaiting s).clock = s.clock ∧
    (dropWaiting s).meas = s.meas ∧ (dropWaiting s).cfg = s.cfg ∧ (dropWaiting s).seq = s.seq ∧
    (dropWaiting s).en = s.en ∧ (dropWaiting s).tags = s.tags ∧ (dropWaiting s).stage = s.stage ∧
    (dropWaiting s).eq = s.eq ∧ (dropWaiting s).rad = s.rad ∧ (dropWaiting s).cap = s.cap := by
  unfold dropWaiting; try dsimp only
  all_goals simp

@[simp] theorem awaitGate_frame (kind : TestKind) (s : State) :
    (awaitGate kind s).pending = s.pending ∧ (awaitGate kind s).power = s.power ∧
    (awaitGate kind s).readsDone = s.readsDone ∧ (awaitGate kind s).clock = s.clock ∧
    (awaitGate kind s).meas = s.meas ∧ (awaitGate kind s).cfg = s.cfg ∧
    (awaitGate kind s).seq = s.seq ∧ (awaitGate kind s).en = s.en ∧
    (awaitGate kind s).tags = s.tags ∧ (awaitGate kind s).stage = s.stage ∧
    (awaitGate kind s).eq = s.eq ∧ (awaitGate kind s).rad = s.rad ∧ (awaitGate kind s).cap = s.cap := by
  unfold awaitGate; try dsimp only
  all_goals simp

@[simp] theorem enterChargerFault_frame (s : State) :
    (enterChargerFault s).pending = s.pending ∧ (enterChargerFault s).power = s.power ∧
    (enterChargerFault s).readsDone = s.readsDone ∧ (enterChargerFault s).clock = s.clock ∧
    (enterChargerFault s).meas = s.meas ∧ (enterChargerFault s).cfg = s.cfg ∧
    (enterChargerFault s).seq = s.seq ∧ (enterChargerFault s).en = s.en ∧
    (enterChargerFault s).tags = s.tags ∧ (enterChargerFault s).stage = s.stage ∧
    (enterChargerFault s).eq = s.eq ∧ (enterChargerFault s).rad = s.rad ∧
    (enterChargerFault s).cap = s.cap := by
  unfold enterChargerFault; try dsimp only
  all_goals simp

@[simp] theorem judgeCharger_frame (s : State) :
    (judgeCharger s).pending = s.pending ∧ (judgeCharger s).power = s.power ∧
    (judgeCharger s).readsDone = s.readsDone ∧ (judgeCharger s).clock = s.clock ∧
    (judgeCharger s).meas = s.meas ∧ (judgeCharger s).cfg = s.cfg ∧ (judgeCharger s).seq = s.seq ∧
    (judgeCharger s).en = s.en ∧ (judgeCharger s).tags = s.tags ∧
    (judgeCharger s).stage = s.stage ∧ (judgeCharger s).eq = s.eq ∧ (judgeCharger s).rad = s.rad ∧
    (judgeCharger s).cap = s.cap := by
  unfold judgeCharger; try dsimp only
  repeat' split
  all_goals simp

@[simp] theorem setCabinetSwitch_frame (s : State) :
    (setCabinetSwitch s).pending = s.pending ∧ (setCabinetSwitch s).power = s.power ∧
    (setCabinetSwitch s).readsDone = s.readsDone ∧ (setCabinetSwitch s).clock = s.clock ∧
    (setCabinetSwitch s).meas = s.meas ∧ (setCabinetSwitch s).cfg = s.cfg ∧
    (setCabinetSwitch s).seq = s.seq ∧ (setCabinetSwitch s).en = s.en ∧
    (setCabinetSwitch s).tags = s.tags ∧ (setCabinetSwitch s).stage = s.stage ∧
    (setCabinetSwitch s).eq = s.eq ∧ (setCabinetSwitch s).rad = s.rad ∧
    (setCabinetSwitch s).cap = s.cap := by
  unfold setCabinetSwitch; try dsimp only
  repeat' split
  all_goals simp

@[simp] theorem crewFrame_frame (s : State) :
    (crewFrame s).pending = s.pending ∧ (crewFrame s).power = s.power ∧
    (crewFrame s).readsDone = s.readsDone ∧ (crewFrame s).clock = s.clock ∧
    (crewFrame s).meas = s.meas ∧ (crewFrame s).cfg = s.cfg ∧ (crewFrame s).seq = s.seq ∧
    (crewFrame s).en = s.en ∧ (crewFrame s).tags = s.tags ∧ (crewFrame s).stage = s.stage ∧
    (crewFrame s).eq = s.eq ∧ (crewFrame s).rad = s.rad ∧ (crewFrame s).cap = s.cap := by
  unfold crewFrame; try dsimp only
  repeat' split
  all_goals simp

@[simp] theorem handPermission_frame (old : Option PowerState) (new : PowerState) (s : State) :
    (handPermission old new s).pending = s.pending ∧ (handPermission old new s).power = s.power ∧
    (handPermission old new s).readsDone = s.readsDone ∧
    (handPermission old new s).clock = s.clock ∧ (handPermission old new s).meas = s.meas ∧
    (handPermission old new s).cfg = s.cfg ∧ (handPermission old new s).seq = s.seq ∧
    (handPermission old new s).en = s.en ∧ (handPermission old new s).tags = s.tags ∧
    (handPermission old new s).bat = s.bat ∧ (handPermission old new s).stage = s.stage ∧
    (handPermission old new s).eq = s.eq ∧ (handPermission old new s).rad = s.rad ∧
    (handPermission old new s).cap = s.cap := by
  unfold handPermission; try dsimp only
  repeat' split
  all_goals simp

@[simp] theorem setPowerState_frame (new : PowerState) (s : State) :
    (setPowerState new s).pending = s.pending ∧ (setPowerState new s).power = s.power ∧
    (setPowerState new s).readsDone = s.readsDone ∧ (setPowerState new s).clock = s.clock ∧
    (setPowerState new s).meas = s.meas ∧ (setPowerState new s).cfg = s.cfg ∧
    (setPowerState new s).seq = s.seq ∧ (setPowerState new s).tags = s.tags ∧
    (setPowerState new s).stage = s.stage ∧ (setPowerState new s).eq = s.eq ∧
    (setPowerState new s).rad = s.rad ∧ (setPowerState new s).cap = s.cap := by
  unfold setPowerState; try dsimp only
  repeat' split
  all_goals simp

@[simp] theorem judgePower_frame (p : PowerState) (s : State) :
    (judgePower p s).pending = s.pending ∧ (judgePower p s).power = s.power ∧
    (judgePower p s).readsDone = s.readsDone ∧ (judgePower p s).clock = s.clock ∧
    (judgePower p s).meas = s.meas ∧ (judgePower p s).cfg = s.cfg ∧ (judgePower p s).seq = s.seq ∧
    (judgePower p s).tags = s.tags ∧ (judgePower p s).stage = s.stage ∧
    (judgePower p s).eq = s.eq ∧ (judgePower p s).rad = s.rad ∧ (judgePower p s).cap = s.cap := by
  unfold judgePower; try dsimp only
  repeat' split
  all_goals simp

@[simp] theorem applyAbsorbTime_frame (s : State) :
    (applyAbsorbTime s).pending = s.pending ∧ (applyAbsorbTime s).power = s.power ∧
    (applyAbsorbTime s).readsDone = s.readsDone ∧ (applyAbsorbTime s).clock = s.clock ∧
    (applyAbsorbTime s).meas = s.meas ∧ (applyAbsorbTime s).cfg = s.cfg ∧
    (applyAbsorbTime s).seq = s.seq ∧ (applyAbsorbTime s).en = s.en ∧
    (applyAbsorbTime s).tags = s.tags ∧ (applyAbsorbTime s).stage = s.stage ∧
    (applyAbsorbTime s).eq = s.eq ∧ (applyAbsorbTime s).rad = s.rad ∧
    (applyAbsorbTime s).cap = s.cap := by
  unfold applyAbsorbTime; try dsimp only
  repeat' split
  all_goals simp

@[simp] theorem stopTests_frame (s : State) :
    (stopTests s).pending = s.pending ∧ (stopTests s).power = s.power ∧
    (stopTests s).readsDone = s.readsDone ∧ (stopTests s).clock = s.clock ∧
    (stopTests s).meas = s.meas ∧ (stopTests s).cfg = s.cfg ∧ (stopTests s).seq = s.seq ∧
    (stopTests s).en = s.en ∧ (stopTests s).tags = s.tags ∧ (stopTests s).stage = s.stage ∧
    (stopTests s).eq = s.eq ∧ (stopTests s).rad = s.rad ∧ (stopTests s).cap = s.cap := by
  unfold stopTests; try dsimp only
  repeat' split
  all_goals simp

@[simp] theorem applyTestPeriod_frame (old : Nat) (s : State) :
    (applyTestPeriod old s).pending = s.pending ∧ (applyTestPeriod old s).power = s.power ∧
    (applyTestPeriod old s).readsDone = s.readsDone ∧ (applyTestPeriod old s).clock = s.clock ∧
    (applyTestPeriod old s).meas = s.meas ∧ (applyTestPeriod old s).cfg = s.cfg ∧
    (applyTestPeriod old s).seq = s.seq ∧ (applyTestPeriod old s).en = s.en ∧
    (applyTestPeriod old s).tags = s.tags ∧ (applyTestPeriod old s).stage = s.stage ∧
    (applyTestPeriod old s).eq = s.eq ∧ (applyTestPeriod old s).rad = s.rad ∧
    (applyTestPeriod old s).cap = s.cap := by
  unfold applyTestPeriod; try dsimp only
  repeat' split
  all_goals simp

@[simp] theorem applyBattery_frame (oldPeriod : Nat) (s : State) :
    (applyBattery oldPeriod s).pending = s.pending ∧ (applyBattery oldPeriod s).power = s.power ∧
    (applyBattery oldPeriod s).readsDone = s.readsDone ∧
    (applyBattery oldPeriod s).clock = s.clock ∧ (applyBattery oldPeriod s).meas = s.meas ∧
    (applyBattery oldPeriod s).cfg = s.cfg ∧ (applyBattery oldPeriod s).seq = s.seq ∧
    (applyBattery oldPeriod s).en = s.en ∧ (applyBattery oldPeriod s).tags = s.tags ∧
    (applyBattery oldPeriod s).stage = s.stage ∧ (applyBattery oldPeriod s).eq = s.eq ∧
    (applyBattery oldPeriod s).rad = s.rad ∧ (applyBattery oldPeriod s).cap = s.cap := by
  unfold applyBattery; try dsimp only
  all_goals simp


/-! ## Machine/Battery -/

@[simp] theorem radioBegins_frame (permitted : Bool) (s : State) :
    (radioBegins permitted s).pending = s.pending ∧ (radioBegins permitted s).power = s.power ∧
    (radioBegins permitted s).readsDone = s.readsDone ∧ (radioBegins permitted s).clock = s.clock ∧
    (radioBegins permitted s).meas = s.meas ∧ (radioBegins permitted s).cfg = s.cfg ∧
    (radioBegins permitted s).seq = s.seq ∧ (radioBegins permitted s).en = s.en ∧
    (radioBegins permitted s).tags = s.tags ∧ (radioBegins permitted s).bat = s.bat ∧
    (radioBegins permitted s).stage = s.stage ∧ (radioBegins permitted s).eq = s.eq ∧
    (radioBegins permitted s).cap = s.cap := by
  unfold radioBegins; try dsimp only
  all_goals simp

@[simp] theorem completeStart_frame (s : State) :
    (completeStart s).pending = s.pending ∧ (completeStart s).power = s.power ∧
    (completeStart s).readsDone = s.readsDone ∧ (completeStart s).clock = s.clock ∧
    (completeStart s).meas = s.meas ∧ (completeStart s).cfg = s.cfg ∧
    (completeStart s).seq = s.seq ∧ (completeStart s).en = s.en ∧ (completeStart s).tags = s.tags ∧
    (completeStart s).bat = s.bat ∧ (completeStart s).stage = s.stage ∧
    (completeStart s).eq = s.eq ∧ (completeStart s).cap = s.cap := by
  unfold completeStart; try dsimp only
  all_goals simp

@[simp] theorem powerAtDelivery_frame (s : State) :
    (powerAtDelivery s).pending = s.pending ∧ (powerAtDelivery s).power = s.power ∧
    (powerAtDelivery s).readsDone = s.readsDone ∧ (powerAtDelivery s).clock = s.clock ∧
    (powerAtDelivery s).meas = s.meas ∧ (powerAtDelivery s).cfg = s.cfg ∧
    (powerAtDelivery s).seq = s.seq ∧ (powerAtDelivery s).tags = s.tags ∧
    (powerAtDelivery s).stage = s.stage ∧ (powerAtDelivery s).eq = s.eq ∧
    (powerAtDelivery s).cap = s.cap := by
  unfold powerAtDelivery; try dsimp only
  repeat' split
  all_goals simp

@[simp] theorem takeDelivery_frame (supplyBefore : Bool) (s : State) :
    (takeDelivery supplyBefore s).pending = s.pending ∧
    (takeDelivery supplyBefore s).power = s.power ∧
    (takeDelivery supplyBefore s).readsDone = s.readsDone ∧
    (takeDelivery supplyBefore s).clock = s.clock ∧ (takeDelivery supplyBefore s).meas = s.meas ∧
    (takeDelivery supplyBefore s).cfg = s.cfg ∧ (takeDelivery supplyBefore s).seq = s.seq ∧
    (takeDelivery supplyBefore s).tags = s.tags ∧ (takeDelivery supplyBefore s).stage = s.stage ∧
    (takeDelivery supplyBefore s).eq = s.eq ∧ (takeDelivery supplyBefore s).cap = s.cap := by
  unfold takeDelivery; try dsimp only
  repeat' split
  all_goals simp

@[simp] theorem reloadTestTimer_frame (s : State) :
    (reloadTestTimer s).pending = s.pending ∧ (reloadTestTimer s).power = s.power ∧
    (reloadTestTimer s).readsDone = s.readsDone ∧ (reloadTestTimer s).clock = s.clock ∧
    (reloadTestTimer s).meas = s.meas ∧ (reloadTestTimer s).cfg = s.cfg ∧
    (reloadTestTimer s).seq = s.seq ∧ (reloadTestTimer s).en = s.en ∧
    (reloadTestTimer s).tags = s.tags ∧ (reloadTestTimer s).stage = s.stage ∧
    (reloadTestTimer s).eq = s.eq ∧ (reloadTestTimer s).rad = s.rad ∧
    (reloadTestTimer s).cap = s.cap := by
  unfold reloadTestTimer; try dsimp only
  all_goals simp

@[simp] theorem scheduleTest_frame (s : State) :
    (scheduleTest s).pending = s.pending ∧ (scheduleTest s).power = s.power ∧
    (scheduleTest s).readsDone = s.readsDone ∧ (scheduleTest s).clock = s.clock ∧
    (scheduleTest s).meas = s.meas ∧ (scheduleTest s).cfg = s.cfg ∧ (scheduleTest s).seq = s.seq ∧
    (scheduleTest s).en = s.en ∧ (scheduleTest s).tags = s.tags ∧
    (scheduleTest s).stage = s.stage ∧ (scheduleTest s).eq = s.eq ∧ (scheduleTest s).rad = s.rad ∧
    (scheduleTest s).cap = s.cap := by
  unfold scheduleTest; try dsimp only
  all_goals simp

@[simp] theorem testTimerExpires_frame (s : State) :
    (testTimerExpires s).pending = s.pending ∧ (testTimerExpires s).power = s.power ∧
    (testTimerExpires s).readsDone = s.readsDone ∧ (testTimerExpires s).clock = s.clock ∧
    (testTimerExpires s).meas = s.meas ∧ (testTimerExpires s).cfg = s.cfg ∧
    (testTimerExpires s).seq = s.seq ∧ (testTimerExpires s).en = s.en ∧
    (testTimerExpires s).tags = s.tags ∧ (testTimerExpires s).stage = s.stage ∧
    (testTimerExpires s).eq = s.eq ∧ (testTimerExpires s).rad = s.rad ∧
    (testTimerExpires s).cap = s.cap := by
  unfold testTimerExpires; try dsimp only
  repeat' split
  all_goals simp

@[simp] theorem startLoad_frame (s : State) :
    (startLoad s).pending = s.pending ∧ (startLoad s).power = s.power ∧
    (startLoad s).readsDone = s.readsDone ∧ (startLoad s).clock = s.clock ∧
    (startLoad s).meas = s.meas ∧ (startLoad s).cfg = s.cfg ∧ (startLoad s).seq = s.seq ∧
    (startLoad s).en = s.en ∧ (startLoad s).tags = s.tags ∧ (startLoad s).stage = s.stage ∧
    (startLoad s).eq = s.eq ∧ (startLoad s).rad = s.rad ∧ (startLoad s).cap = s.cap := by
  unfold startLoad; try dsimp only
  all_goals simp

@[simp] theorem finishTest_frame (s : State) :
    (finishTest s).pending = s.pending ∧ (finishTest s).power = s.power ∧
    (finishTest s).readsDone = s.readsDone ∧ (finishTest s).clock = s.clock ∧
    (finishTest s).meas = s.meas ∧ (finishTest s).cfg = s.cfg ∧ (finishTest s).seq = s.seq ∧
    (finishTest s).en = s.en ∧ (finishTest s).tags = s.tags ∧ (finishTest s).stage = s.stage ∧
    (finishTest s).eq = s.eq ∧ (finishTest s).rad = s.rad ∧ (finishTest s).cap = s.cap := by
  unfold finishTest; try dsimp only
  all_goals simp

@[simp] theorem takeRestNotice_frame (n : RestNotice) (s : State) :
    (takeRestNotice n s).pending = s.pending ∧ (takeRestNotice n s).power = s.power ∧
    (takeRestNotice n s).readsDone = s.readsDone ∧ (takeRestNotice n s).clock = s.clock ∧
    (takeRestNotice n s).meas = s.meas ∧ (takeRestNotice n s).cfg = s.cfg ∧
    (takeRestNotice n s).seq = s.seq ∧ (takeRestNotice n s).en = s.en ∧
    (takeRestNotice n s).tags = s.tags ∧ (takeRestNotice n s).stage = s.stage ∧
    (takeRestNotice n s).eq = s.eq ∧ (takeRestNotice n s).rad = s.rad ∧
    (takeRestNotice n s).cap = s.cap := by
  unfold takeRestNotice; try dsimp only
  repeat' split
  all_goals simp

@[simp] theorem serveTestStart_frame (id : Nat) (s : State) :
    (serveTestStart id s).pending = s.pending ∧ (serveTestStart id s).power = s.power ∧
    (serveTestStart id s).readsDone = s.readsDone ∧ (serveTestStart id s).clock = s.clock ∧
    (serveTestStart id s).meas = s.meas ∧ (serveTestStart id s).cfg = s.cfg ∧
    (serveTestStart id s).seq = s.seq ∧ (serveTestStart id s).en = s.en ∧
    (serveTestStart id s).tags = s.tags ∧ (serveTestStart id s).stage = s.stage ∧
    (serveTestStart id s).eq = s.eq ∧ (serveTestStart id s).rad = s.rad ∧
    (serveTestStart id s).cap = s.cap := by
  unfold serveTestStart; try dsimp only
  repeat' split
  all_goals simp

@[simp] theorem serveResultGet_frame (id : Nat) (s : State) :
    (serveResultGet id s).pending = s.pending ∧ (serveResultGet id s).power = s.power ∧
    (serveResultGet id s).readsDone = s.readsDone ∧ (serveResultGet id s).clock = s.clock ∧
    (serveResultGet id s).meas = s.meas ∧ (serveResultGet id s).cfg = s.cfg ∧
    (serveResultGet id s).seq = s.seq ∧ (serveResultGet id s).en = s.en ∧
    (serveResultGet id s).tags = s.tags ∧ (serveResultGet id s).bat = s.bat ∧
    (serveResultGet id s).stage = s.stage ∧ (serveResultGet id s).eq = s.eq ∧
    (serveResultGet id s).rad = s.rad ∧ (serveResultGet id s).cap = s.cap := by
  unfold serveResultGet; try dsimp only
  all_goals simp

@[simp] theorem restartTest_frame (s : State) :
    (restartTest s).pending = s.pending ∧ (restartTest s).power = s.power ∧
    (restartTest s).readsDone = s.readsDone ∧ (restartTest s).clock = s.clock ∧
    (restartTest s).meas = s.meas ∧ (restartTest s).cfg = s.cfg ∧ (restartTest s).seq = s.seq ∧
    (restartTest s).en = s.en ∧ (restartTest s).tags = s.tags ∧ (restartTest s).stage = s.stage ∧
    (restartTest s).eq = s.eq ∧ (restartTest s).rad = s.rad ∧ (restartTest s).cap = s.cap := by
  unfold restartTest; try dsimp only
  repeat' split
  all_goals simp

@[simp] theorem serveRestartTest_frame (id : Nat) (s : State) :
    (serveRestartTest id s).pending = s.pending ∧ (serveRestartTest id s).power = s.power ∧
    (serveRestartTest id s).readsDone = s.readsDone ∧ (serveRestartTest id s).clock = s.clock ∧
    (serveRestartTest id s).meas = s.meas ∧ (serveRestartTest id s).cfg = s.cfg ∧
    (serveRestartTest id s).seq = s.seq ∧ (serveRestartTest id s).en = s.en ∧
    (serveRestartTest id s).tags = s.tags ∧ (serveRestartTest id s).stage = s.stage ∧
    (serveRestartTest id s).eq = s.eq ∧ (serveRestartTest id s).rad = s.rad ∧
    (serveRestartTest id s).cap = s.cap := by
  unfold serveRestartTest; try dsimp only
  all_goals simp


/-! ## Machine/Optical -/

@[simp] theorem serveToken_frame (f : TokenFrame) (s : State) :
    (serveToken f s).pending = s.pending ∧ (serveToken f s).power = s.power ∧
    (serveToken f s).readsDone = s.readsDone ∧ (serveToken f s).clock = s.clock ∧
    (serveToken f s).cfg = s.cfg ∧ (serveToken f s).seq = s.seq ∧ (serveToken f s).bat = s.bat ∧
    (serveToken f s).stage = s.stage ∧ (serveToken f s).cap = s.cap := by
  unfold serveToken; try dsimp only
  repeat' split
  all_goals simp

@[simp] theorem overrun_frame (crew : Half) (number : Byte) (s : State) :
    (overrun crew number s).pending = s.pending ∧ (overrun crew number s).power = s.power ∧
    (overrun crew number s).readsDone = s.readsDone ∧ (overrun crew number s).clock = s.clock ∧
    (overrun crew number s).meas = s.meas ∧ (overrun crew number s).cfg = s.cfg ∧
    (overrun crew number s).seq = s.seq ∧ (overrun crew number s).en = s.en ∧
    (overrun crew number s).tags = s.tags ∧ (overrun crew number s).bat = s.bat ∧
    (overrun crew number s).stage = s.stage ∧ (overrun crew number s).eq = s.eq ∧
    (overrun crew number s).rad = s.rad ∧ (overrun crew number s).cap = s.cap := by
  unfold overrun; try dsimp only
  repeat' split
  all_goals simp

@[simp] theorem joinBuffer_frame (crew : Half) (action number : Byte) (s : State) :
    (joinBuffer crew action number s).pending = s.pending ∧
    (joinBuffer crew action number s).power = s.power ∧
    (joinBuffer crew action number s).readsDone = s.readsDone ∧
    (joinBuffer crew action number s).clock = s.clock ∧
    (joinBuffer crew action number s).cfg = s.cfg ∧ (joinBuffer crew action number s).seq = s.seq ∧
    (joinBuffer crew action number s).bat = s.bat ∧
    (joinBuffer crew action number s).stage = s.stage ∧
    (joinBuffer crew action number s).cap = s.cap := by
  unfold joinBuffer; try dsimp only
  repeat' split
  all_goals simp

@[simp] theorem validToken_frame (crew : Half) (action number : Byte) (s : State) :
    (validToken crew action number s).pending = s.pending ∧
    (validToken crew action number s).power = s.power ∧
    (validToken crew action number s).readsDone = s.readsDone ∧
    (validToken crew action number s).clock = s.clock ∧
    (validToken crew action number s).cfg = s.cfg ∧ (validToken crew action number s).seq = s.seq ∧
    (validToken crew action number s).stage = s.stage ∧
    (validToken crew action number s).cap = s.cap := by
  unfold validToken; try dsimp only
  repeat' split
  all_goals simp

@[simp] theorem closedToken_frame (bytes : List Byte) (s : State) :
    (closedToken bytes s).pending = s.pending ∧ (closedToken bytes s).power = s.power ∧
    (closedToken bytes s).readsDone = s.readsDone ∧ (closedToken bytes s).clock = s.clock ∧
    (closedToken bytes s).cfg = s.cfg ∧ (closedToken bytes s).seq = s.seq ∧
    (closedToken bytes s).stage = s.stage ∧ (closedToken bytes s).cap = s.cap := by
  unfold closedToken; try dsimp only
  repeat' split
  all_goals simp

@[simp] theorem opticalByte_frame (b : Byte) (s : State) :
    (opticalByte b s).pending = s.pending ∧ (opticalByte b s).power = s.power ∧
    (opticalByte b s).readsDone = s.readsDone ∧ (opticalByte b s).clock = s.clock ∧
    (opticalByte b s).cfg = s.cfg ∧ (opticalByte b s).seq = s.seq ∧
    (opticalByte b s).stage = s.stage ∧ (opticalByte b s).cap = s.cap := by
  unfold opticalByte; try dsimp only
  repeat' split
  all_goals simp

@[simp] theorem opticalBytes_frame (x : List Byte) (s : State) :
    (opticalBytes x s).pending = s.pending ∧ (opticalBytes x s).power = s.power ∧
    (opticalBytes x s).readsDone = s.readsDone ∧ (opticalBytes x s).clock = s.clock ∧
    (opticalBytes x s).cfg = s.cfg ∧ (opticalBytes x s).seq = s.seq ∧
    (opticalBytes x s).stage = s.stage ∧ (opticalBytes x s).cap = s.cap := by
  induction x generalizing s <;> unfold opticalBytes <;> simp_all

@[simp] theorem serveNext_frame (s : State) :
    (serveNext s).pending = s.pending ∧ (serveNext s).power = s.power ∧
    (serveNext s).readsDone = s.readsDone ∧ (serveNext s).clock = s.clock ∧
    (serveNext s).cfg = s.cfg ∧ (serveNext s).seq = s.seq ∧ (serveNext s).bat = s.bat ∧
    (serveNext s).stage = s.stage ∧ (serveNext s).cap = s.cap := by
  unfold serveNext; try dsimp only
  repeat' split
  all_goals simp

@[simp] theorem serveRestartOptical_frame (id : Nat) (s : State) :
    (serveRestartOptical id s).pending = s.pending ∧ (serveRestartOptical id s).power = s.power ∧
    (serveRestartOptical id s).readsDone = s.readsDone ∧
    (serveRestartOptical id s).clock = s.clock ∧ (serveRestartOptical id s).meas = s.meas ∧
    (serveRestartOptical id s).cfg = s.cfg ∧ (serveRestartOptical id s).seq = s.seq ∧
    (serveRestartOptical id s).en = s.en ∧ (serveRestartOptical id s).tags = s.tags ∧
    (serveRestartOptical id s).bat = s.bat ∧ (serveRestartOptical id s).stage = s.stage ∧
    (serveRestartOptical id s).eq = s.eq ∧ (serveRestartOptical id s).rad = s.rad ∧
    (serveRestartOptical id s).cap = s.cap := by
  unfold serveRestartOptical; try dsimp only
  all_goals simp


/-! ## Machine/Stores -/

@[simp] theorem answerOwed_frame (fault : Bool) (x : List OwedWrite) (s : State) :
    (answerOwed fault x s).pending = s.pending ∧ (answerOwed fault x s).power = s.power ∧
    (answerOwed fault x s).readsDone = s.readsDone ∧ (answerOwed fault x s).clock = s.clock ∧
    (answerOwed fault x s).meas = s.meas ∧ (answerOwed fault x s).cfg = s.cfg ∧
    (answerOwed fault x s).seq = s.seq ∧ (answerOwed fault x s).en = s.en ∧
    (answerOwed fault x s).tags = s.tags ∧ (answerOwed fault x s).bat = s.bat ∧
    (answerOwed fault x s).stage = s.stage ∧ (answerOwed fault x s).eq = s.eq ∧
    (answerOwed fault x s).rad = s.rad ∧ (answerOwed fault x s).cap = s.cap := by
  induction x generalizing s <;> unfold answerOwed <;> (repeat' split) <;> simp_all

@[simp] theorem resolveOwners_frame (fault : Bool) (s : State) :
    (resolveOwners fault s).pending = s.pending ∧ (resolveOwners fault s).power = s.power ∧
    (resolveOwners fault s).readsDone = s.readsDone ∧ (resolveOwners fault s).clock = s.clock ∧
    (resolveOwners fault s).cfg = s.cfg ∧ (resolveOwners fault s).seq = s.seq ∧
    (resolveOwners fault s).bat = s.bat ∧ (resolveOwners fault s).stage = s.stage ∧
    (resolveOwners fault s).cap = s.cap := by
  unfold resolveOwners; try dsimp only
  all_goals simp

@[simp] theorem takeWriteOutcome_frame (fault : Bool) (content : RetainedContent) (s : State) :
    (takeWriteOutcome fault content s).pending = s.pending ∧
    (takeWriteOutcome fault content s).power = s.power ∧
    (takeWriteOutcome fault content s).readsDone = s.readsDone ∧
    (takeWriteOutcome fault content s).clock = s.clock ∧
    (takeWriteOutcome fault content s).meas = s.meas ∧
    (takeWriteOutcome fault content s).cfg = s.cfg ∧
    (takeWriteOutcome fault content s).seq = s.seq ∧ (takeWriteOutcome fault content s).en = s.en ∧
    (takeWriteOutcome fault content s).tags = s.tags ∧
    (takeWriteOutcome fault content s).bat = s.bat ∧
    (takeWriteOutcome fault content s).stage = s.stage ∧
    (takeWriteOutcome fault content s).eq = s.eq ∧ (takeWriteOutcome fault content s).rad = s.rad ∧
    (takeWriteOutcome fault content s).cap = s.cap := by
  unfold takeWriteOutcome; try dsimp only
  repeat' split
  all_goals simp

@[simp] theorem leaveWriting_frame (s : State) :
    (leaveWriting s).pending = s.pending ∧ (leaveWriting s).power = s.power ∧
    (leaveWriting s).readsDone = s.readsDone ∧ (leaveWriting s).clock = s.clock ∧
    (leaveWriting s).cfg = s.cfg ∧ (leaveWriting s).seq = s.seq ∧ (leaveWriting s).bat = s.bat ∧
    (leaveWriting s).stage = s.stage ∧ (leaveWriting s).eq = s.eq ∧ (leaveWriting s).rad = s.rad ∧
    (leaveWriting s).cap = s.cap := by
  unfold leaveWriting; try dsimp only
  repeat' split
  all_goals simp

@[simp] theorem takeSettingsOutcome_frame (fault : Bool) (c : BlockContent) (s : State) :
    (takeSettingsOutcome fault c s).pending = s.pending ∧
    (takeSettingsOutcome fault c s).power = s.power ∧
    (takeSettingsOutcome fault c s).readsDone = s.readsDone ∧
    (takeSettingsOutcome fault c s).clock = s.clock ∧
    (takeSettingsOutcome fault c s).meas = s.meas ∧ (takeSettingsOutcome fault c s).cfg = s.cfg ∧
    (takeSettingsOutcome fault c s).seq = s.seq ∧ (takeSettingsOutcome fault c s).en = s.en ∧
    (takeSettingsOutcome fault c s).tags = s.tags ∧ (takeSettingsOutcome fault c s).bat = s.bat ∧
    (takeSettingsOutcome fault c s).stage = s.stage ∧ (takeSettingsOutcome fault c s).eq = s.eq ∧
    (takeSettingsOutcome fault c s).rad = s.rad ∧ (takeSettingsOutcome fault c s).cap = s.cap := by
  unfold takeSettingsOutcome; try dsimp only
  repeat' split
  all_goals simp

@[simp] theorem nextSettingsWrite_frame (s : State) :
    (nextSettingsWrite s).pending = s.pending ∧ (nextSettingsWrite s).power = s.power ∧
    (nextSettingsWrite s).readsDone = s.readsDone ∧ (nextSettingsWrite s).clock = s.clock ∧
    (nextSettingsWrite s).meas = s.meas ∧ (nextSettingsWrite s).cfg = s.cfg ∧
    (nextSettingsWrite s).seq = s.seq ∧ (nextSettingsWrite s).en = s.en ∧
    (nextSettingsWrite s).tags = s.tags ∧ (nextSettingsWrite s).bat = s.bat ∧
    (nextSettingsWrite s).stage = s.stage ∧ (nextSettingsWrite s).eq = s.eq ∧
    (nextSettingsWrite s).rad = s.rad ∧ (nextSettingsWrite s).cap = s.cap := by
  unfold nextSettingsWrite; try dsimp only
  repeat' split
  all_goals simp


/-! ## Machine/Stager -/

@[simp] theorem applyProtection_frame (oldMode : TripMode) (s : State) :
    (applyProtection oldMode s).pending = s.pending ∧ (applyProtection oldMode s).power = s.power ∧
    (applyProtection oldMode s).readsDone = s.readsDone ∧
    (applyProtection oldMode s).clock = s.clock ∧ (applyProtection oldMode s).meas = s.meas ∧
    (applyProtection oldMode s).cfg = s.cfg ∧ (applyProtection oldMode s).tags = s.tags ∧
    (applyProtection oldMode s).bat = s.bat ∧ (applyProtection oldMode s).stage = s.stage ∧
    (applyProtection oldMode s).eq = s.eq ∧ (applyProtection oldMode s).rad = s.rad ∧
    (applyProtection oldMode s).cap = s.cap := by
  unfold applyProtection; try dsimp only
  all_goals simp

@[simp] theorem applyRadio_frame (oldPeriod : Nat) (s : State) :
    (applyRadio oldPeriod s).pending = s.pending ∧ (applyRadio oldPeriod s).power = s.power ∧
    (applyRadio oldPeriod s).readsDone = s.readsDone ∧ (applyRadio oldPeriod s).clock = s.clock ∧
    (applyRadio oldPeriod s).meas = s.meas ∧ (applyRadio oldPeriod s).cfg = s.cfg ∧
    (applyRadio oldPeriod s).seq = s.seq ∧ (applyRadio oldPeriod s).en = s.en ∧
    (applyRadio oldPeriod s).tags = s.tags ∧ (applyRadio oldPeriod s).bat = s.bat ∧
    (applyRadio oldPeriod s).stage = s.stage ∧ (applyRadio oldPeriod s).cap = s.cap := by
  unfold applyRadio; try dsimp only
  repeat' split
  all_goals simp

@[simp] theorem applyCapture_frame (oldCount : Nat) (s : State) :
    (applyCapture oldCount s).pending = s.pending ∧ (applyCapture oldCount s).power = s.power ∧
    (applyCapture oldCount s).readsDone = s.readsDone ∧ (applyCapture oldCount s).clock = s.clock ∧
    (applyCapture oldCount s).meas = s.meas ∧ (applyCapture oldCount s).cfg = s.cfg ∧
    (applyCapture oldCount s).seq = s.seq ∧ (applyCapture oldCount s).en = s.en ∧
    (applyCapture oldCount s).tags = s.tags ∧ (applyCapture oldCount s).bat = s.bat ∧
    (applyCapture oldCount s).stage = s.stage ∧ (applyCapture oldCount s).eq = s.eq ∧
    (applyCapture oldCount s).rad = s.rad := by
  unfold applyCapture; try dsimp only
  repeat' split
  all_goals simp

@[simp] theorem takeApplied_frame (old : InForce) (b : BlockName) (s : State) :
    (takeApplied old b s).pending = s.pending ∧ (takeApplied old b s).power = s.power ∧
    (takeApplied old b s).readsDone = s.readsDone ∧ (takeApplied old b s).clock = s.clock ∧
    (takeApplied old b s).meas = s.meas ∧ (takeApplied old b s).cfg = s.cfg ∧
    (takeApplied old b s).tags = s.tags ∧ (takeApplied old b s).stage = s.stage := by
  unfold takeApplied; try dsimp only
  repeat' split
  all_goals simp

@[simp] theorem applyBlock_frame (c : BlockContent) (rest : List BlockContent) (s : State) :
    (applyBlock c rest s).pending = s.pending ∧ (applyBlock c rest s).power = s.power ∧
    (applyBlock c rest s).readsDone = s.readsDone ∧ (applyBlock c rest s).clock = s.clock ∧
    (applyBlock c rest s).meas = s.meas ∧ (applyBlock c rest s).tags = s.tags := by
  unfold applyBlock; try dsimp only
  all_goals simp

@[simp] theorem judgeHeads_frame (x : Nat) (s : State) :
    (judgeHeads x s).pending = s.pending ∧ (judgeHeads x s).power = s.power ∧
    (judgeHeads x s).readsDone = s.readsDone ∧ (judgeHeads x s).clock = s.clock ∧
    (judgeHeads x s).meas = s.meas ∧ (judgeHeads x s).tags = s.tags := by
  induction x generalizing s <;> unfold judgeHeads <;> (repeat' split) <;> simp_all

@[simp] theorem judgeHead_frame (s : State) :
    (judgeHead s).pending = s.pending ∧ (judgeHead s).power = s.power ∧
    (judgeHead s).readsDone = s.readsDone ∧ (judgeHead s).clock = s.clock ∧
    (judgeHead s).meas = s.meas ∧ (judgeHead s).tags = s.tags := by
  unfold judgeHead; try dsimp only
  all_goals simp

@[simp] theorem takeNotice_frame (source : NoticeSource) (s : State) :
    (takeNotice source s).pending = s.pending ∧ (takeNotice source s).power = s.power ∧
    (takeNotice source s).readsDone = s.readsDone ∧ (takeNotice source s).clock = s.clock ∧
    (takeNotice source s).meas = s.meas ∧ (takeNotice source s).tags = s.tags := by
  unfold takeNotice; try dsimp only
  repeat' split
  all_goals simp

@[simp] theorem writeBlock_frame (b : BlockName) (bytes : List Byte) (id : Nat) (s : State) :
    (writeBlock b bytes id s).pending = s.pending ∧ (writeBlock b bytes id s).power = s.power ∧
    (writeBlock b bytes id s).readsDone = s.readsDone ∧ (writeBlock b bytes id s).clock = s.clock ∧
    (writeBlock b bytes id s).meas = s.meas ∧ (writeBlock b bytes id s).tags = s.tags := by
  unfold writeBlock; try dsimp only
  repeat' split
  all_goals simp

@[simp] theorem serveSettingsRead_frame (block curve : Byte) (id : Nat) (s : State) :
    (serveSettingsRead block curve id s).pending = s.pending ∧
    (serveSettingsRead block curve id s).power = s.power ∧
    (serveSettingsRead block curve id s).readsDone = s.readsDone ∧
    (serveSettingsRead block curve id s).clock = s.clock ∧
    (serveSettingsRead block curve id s).meas = s.meas ∧
    (serveSettingsRead block curve id s).cfg = s.cfg ∧
    (serveSettingsRead block curve id s).seq = s.seq ∧
    (serveSettingsRead block curve id s).en = s.en ∧
    (serveSettingsRead block curve id s).tags = s.tags ∧
    (serveSettingsRead block curve id s).bat = s.bat ∧
    (serveSettingsRead block curve id s).stage = s.stage ∧
    (serveSettingsRead block curve id s).eq = s.eq ∧
    (serveSettingsRead block curve id s).rad = s.rad ∧
    (serveSettingsRead block curve id s).cap = s.cap := by
  unfold serveSettingsRead; try dsimp only
  repeat' split
  all_goals simp

@[simp] theorem serveStageGet_frame (id : Nat) (s : State) :
    (serveStageGet id s).pending = s.pending ∧ (serveStageGet id s).power = s.power ∧
    (serveStageGet id s).readsDone = s.readsDone ∧ (serveStageGet id s).clock = s.clock ∧
    (serveStageGet id s).meas = s.meas ∧ (serveStageGet id s).cfg = s.cfg ∧
    (serveStageGet id s).seq = s.seq ∧ (serveStageGet id s).en = s.en ∧
    (serveStageGet id s).tags = s.tags ∧ (serveStageGet id s).bat = s.bat ∧
    (serveStageGet id s).stage = s.stage ∧ (serveStageGet id s).eq = s.eq ∧
    (serveStageGet id s).rad = s.rad ∧ (serveStageGet id s).cap = s.cap := by
  unfold serveStageGet; try dsimp only
  all_goals simp

@[simp] theorem serveStageDiscard_frame (id : Nat) (s : State) :
    (serveStageDiscard id s).pending = s.pending ∧ (serveStageDiscard id s).power = s.power ∧
    (serveStageDiscard id s).readsDone = s.readsDone ∧ (serveStageDiscard id s).clock = s.clock ∧
    (serveStageDiscard id s).meas = s.meas ∧ (serveStageDiscard id s).cfg = s.cfg ∧
    (serveStageDiscard id s).seq = s.seq ∧ (serveStageDiscard id s).en = s.en ∧
    (serveStageDiscard id s).tags = s.tags ∧ (serveStageDiscard id s).bat = s.bat ∧
    (serveStageDiscard id s).eq = s.eq ∧ (serveStageDiscard id s).rad = s.rad ∧
    (serveStageDiscard id s).cap = s.cap := by
  unfold serveStageDiscard; try dsimp only
  all_goals simp


/-! ## Machine/RadioOps -/

@[simp] theorem reportRadioFault_frame (cause : RadioFaultCause) (s : State) :
    (reportRadioFault cause s).pending = s.pending ∧ (reportRadioFault cause s).power = s.power ∧
    (reportRadioFault cause s).readsDone = s.readsDone ∧
    (reportRadioFault cause s).clock = s.clock ∧ (reportRadioFault cause s).meas = s.meas ∧
    (reportRadioFault cause s).cfg = s.cfg ∧ (reportRadioFault cause s).seq = s.seq ∧
    (reportRadioFault cause s).en = s.en ∧ (reportRadioFault cause s).tags = s.tags ∧
    (reportRadioFault cause s).bat = s.bat ∧ (reportRadioFault cause s).stage = s.stage ∧
    (reportRadioFault cause s).eq = s.eq ∧ (reportRadioFault cause s).cap = s.cap := by
  unfold reportRadioFault; try dsimp only
  repeat' split
  all_goals simp

@[simp] theorem enterRecovering_frame (cause : RadioFaultCause) (s : State) :
    (enterRecovering cause s).pending = s.pending ∧ (enterRecovering cause s).power = s.power ∧
    (enterRecovering cause s).readsDone = s.readsDone ∧ (enterRecovering cause s).clock = s.clock ∧
    (enterRecovering cause s).meas = s.meas ∧ (enterRecovering cause s).cfg = s.cfg ∧
    (enterRecovering cause s).seq = s.seq ∧ (enterRecovering cause s).en = s.en ∧
    (enterRecovering cause s).tags = s.tags ∧ (enterRecovering cause s).bat = s.bat ∧
    (enterRecovering cause s).stage = s.stage ∧ (enterRecovering cause s).eq = s.eq ∧
    (enterRecovering cause s).cap = s.cap := by
  unfold enterRecovering; try dsimp only
  all_goals simp

@[simp] theorem countModemTimeout_frame (s : State) :
    (countModemTimeout s).pending = s.pending ∧ (countModemTimeout s).power = s.power ∧
    (countModemTimeout s).readsDone = s.readsDone ∧ (countModemTimeout s).clock = s.clock ∧
    (countModemTimeout s).meas = s.meas ∧ (countModemTimeout s).cfg = s.cfg ∧
    (countModemTimeout s).seq = s.seq ∧ (countModemTimeout s).en = s.en ∧
    (countModemTimeout s).tags = s.tags ∧ (countModemTimeout s).bat = s.bat ∧
    (countModemTimeout s).stage = s.stage ∧ (countModemTimeout s).cap = s.cap := by
  unfold countModemTimeout; try dsimp only
  repeat' split
  all_goals simp

@[simp] theorem countReadyWait_frame (s : State) :
    (countReadyWait s).pending = s.pending ∧ (countReadyWait s).power = s.power ∧
    (countReadyWait s).readsDone = s.readsDone ∧ (countReadyWait s).clock = s.clock ∧
    (countReadyWait s).meas = s.meas ∧ (countReadyWait s).cfg = s.cfg ∧
    (countReadyWait s).seq = s.seq ∧ (countReadyWait s).en = s.en ∧
    (countReadyWait s).tags = s.tags ∧ (countReadyWait s).bat = s.bat ∧
    (countReadyWait s).stage = s.stage ∧ (countReadyWait s).eq = s.eq ∧
    (countReadyWait s).cap = s.cap := by
  unfold countReadyWait; try dsimp only
  repeat' split
  all_goals simp

@[simp] theorem losePermission_frame (s : State) :
    (losePermission s).pending = s.pending ∧ (losePermission s).power = s.power ∧
    (losePermission s).readsDone = s.readsDone ∧ (losePermission s).clock = s.clock ∧
    (losePermission s).meas = s.meas ∧ (losePermission s).cfg = s.cfg ∧
    (losePermission s).seq = s.seq ∧ (losePermission s).en = s.en ∧
    (losePermission s).tags = s.tags ∧ (losePermission s).bat = s.bat ∧
    (losePermission s).stage = s.stage ∧ (losePermission s).cap = s.cap := by
  unfold losePermission; try dsimp only
  all_goals simp

@[simp] theorem gainPermission_frame (s : State) :
    (gainPermission s).pending = s.pending ∧ (gainPermission s).power = s.power ∧
    (gainPermission s).readsDone = s.readsDone ∧ (gainPermission s).clock = s.clock ∧
    (gainPermission s).meas = s.meas ∧ (gainPermission s).cfg = s.cfg ∧
    (gainPermission s).seq = s.seq ∧ (gainPermission s).en = s.en ∧
    (gainPermission s).tags = s.tags ∧ (gainPermission s).bat = s.bat ∧
    (gainPermission s).stage = s.stage ∧ (gainPermission s).eq = s.eq ∧
    (gainPermission s).cap = s.cap := by
  unfold gainPermission; try dsimp only
  all_goals simp

@[simp] theorem takeModemReady_frame (s : State) :
    (takeModemReady s).pending = s.pending ∧ (takeModemReady s).power = s.power ∧
    (takeModemReady s).readsDone = s.readsDone ∧ (takeModemReady s).clock = s.clock ∧
    (takeModemReady s).meas = s.meas ∧ (takeModemReady s).cfg = s.cfg ∧
    (takeModemReady s).seq = s.seq ∧ (takeModemReady s).en = s.en ∧
    (takeModemReady s).tags = s.tags ∧ (takeModemReady s).bat = s.bat ∧
    (takeModemReady s).stage = s.stage ∧ (takeModemReady s).cap = s.cap := by
  unfold takeModemReady; try dsimp only
  repeat' split
  all_goals simp

@[simp] theorem refillCredit_frame (s : State) :
    (refillCredit s).pending = s.pending ∧ (refillCredit s).power = s.power ∧
    (refillCredit s).readsDone = s.readsDone ∧ (refillCredit s).clock = s.clock ∧
    (refillCredit s).meas = s.meas ∧ (refillCredit s).cfg = s.cfg ∧ (refillCredit s).seq = s.seq ∧
    (refillCredit s).en = s.en ∧ (refillCredit s).tags = s.tags ∧ (refillCredit s).bat = s.bat ∧
    (refillCredit s).stage = s.stage ∧ (refillCredit s).eq = s.eq ∧ (refillCredit s).cap = s.cap := by
  unfold refillCredit; try dsimp only
  all_goals simp

@[simp] theorem ackWaitRunsOut_frame (number : Nat) (s : State) :
    (ackWaitRunsOut number s).pending = s.pending ∧ (ackWaitRunsOut number s).power = s.power ∧
    (ackWaitRunsOut number s).readsDone = s.readsDone ∧ (ackWaitRunsOut number s).clock = s.clock ∧
    (ackWaitRunsOut number s).meas = s.meas ∧ (ackWaitRunsOut number s).cfg = s.cfg ∧
    (ackWaitRunsOut number s).seq = s.seq ∧ (ackWaitRunsOut number s).en = s.en ∧
    (ackWaitRunsOut number s).tags = s.tags ∧ (ackWaitRunsOut number s).bat = s.bat ∧
    (ackWaitRunsOut number s).stage = s.stage ∧ (ackWaitRunsOut number s).cap = s.cap := by
  unfold ackWaitRunsOut; try dsimp only
  repeat' split
  all_goals simp

@[simp] theorem reloadStatusTimer_frame (s : State) :
    (reloadStatusTimer s).pending = s.pending ∧ (reloadStatusTimer s).power = s.power ∧
    (reloadStatusTimer s).readsDone = s.readsDone ∧ (reloadStatusTimer s).clock = s.clock ∧
    (reloadStatusTimer s).meas = s.meas ∧ (reloadStatusTimer s).cfg = s.cfg ∧
    (reloadStatusTimer s).seq = s.seq ∧ (reloadStatusTimer s).en = s.en ∧
    (reloadStatusTimer s).tags = s.tags ∧ (reloadStatusTimer s).bat = s.bat ∧
    (reloadStatusTimer s).stage = s.stage ∧ (reloadStatusTimer s).eq = s.eq ∧
    (reloadStatusTimer s).cap = s.cap := by
  unfold reloadStatusTimer; try dsimp only
  all_goals simp

@[simp] theorem takeTxResult_frame (number : Byte) (done : Bool) (s : State) :
    (takeTxResult number done s).pending = s.pending ∧
    (takeTxResult number done s).power = s.power ∧
    (takeTxResult number done s).readsDone = s.readsDone ∧
    (takeTxResult number done s).clock = s.clock ∧ (takeTxResult number done s).meas = s.meas ∧
    (takeTxResult number done s).cfg = s.cfg ∧ (takeTxResult number done s).seq = s.seq ∧
    (takeTxResult number done s).en = s.en ∧ (takeTxResult number done s).tags = s.tags ∧
    (takeTxResult number done s).bat = s.bat ∧ (takeTxResult number done s).stage = s.stage ∧
    (takeTxResult number done s).cap = s.cap := by
  unfold takeTxResult; try dsimp only
  repeat' split
  all_goals simp

@[simp] theorem acknowledgeAll_frame (x : List Nat) (s : State) :
    (acknowledgeAll x s).pending = s.pending ∧ (acknowledgeAll x s).power = s.power ∧
    (acknowledgeAll x s).readsDone = s.readsDone ∧ (acknowledgeAll x s).clock = s.clock ∧
    (acknowledgeAll x s).meas = s.meas ∧ (acknowledgeAll x s).cfg = s.cfg ∧
    (acknowledgeAll x s).seq = s.seq ∧ (acknowledgeAll x s).en = s.en ∧
    (acknowledgeAll x s).tags = s.tags ∧ (acknowledgeAll x s).bat = s.bat ∧
    (acknowledgeAll x s).stage = s.stage ∧ (acknowledgeAll x s).rad = s.rad ∧
    (acknowledgeAll x s).cap = s.cap := by
  induction x generalizing s <;> unfold acknowledgeAll <;> simp_all

@[simp] theorem takeAck_frame (number : Byte) (body : List Byte) (s : State) :
    (takeAck number body s).pending = s.pending ∧ (takeAck number body s).power = s.power ∧
    (takeAck number body s).readsDone = s.readsDone ∧ (takeAck number body s).clock = s.clock ∧
    (takeAck number body s).meas = s.meas ∧ (takeAck number body s).cfg = s.cfg ∧
    (takeAck number body s).seq = s.seq ∧ (takeAck number body s).en = s.en ∧
    (takeAck number body s).tags = s.tags ∧ (takeAck number body s).bat = s.bat ∧
    (takeAck number body s).stage = s.stage ∧ (takeAck number body s).cap = s.cap := by
  unfold takeAck; try dsimp only
  repeat' split
  all_goals simp

@[simp] theorem takePoll_frame (number : Byte) (s : State) :
    (takePoll number s).pending = s.pending ∧ (takePoll number s).power = s.power ∧
    (takePoll number s).readsDone = s.readsDone ∧ (takePoll number s).clock = s.clock ∧
    (takePoll number s).cfg = s.cfg ∧ (takePoll number s).seq = s.seq ∧
    (takePoll number s).bat = s.bat ∧ (takePoll number s).stage = s.stage ∧
    (takePoll number s).cap = s.cap := by
  unfold takePoll; try dsimp only
  all_goals simp

@[simp] theorem hearTrip_frame (number set : Byte) (s : State) :
    (hearTrip number set s).pending = s.pending ∧ (hearTrip number set s).power = s.power ∧
    (hearTrip number set s).readsDone = s.readsDone ∧ (hearTrip number set s).clock = s.clock ∧
    (hearTrip number set s).meas = s.meas ∧ (hearTrip number set s).cfg = s.cfg ∧
    (hearTrip number set s).en = s.en ∧ (hearTrip number set s).tags = s.tags ∧
    (hearTrip number set s).bat = s.bat ∧ (hearTrip number set s).stage = s.stage ∧
    (hearTrip number set s).cap = s.cap := by
  unfold hearTrip; try dsimp only
  all_goals simp

@[simp] theorem hearClose_frame (number set : Byte) (s : State) :
    (hearClose number set s).pending = s.pending ∧ (hearClose number set s).power = s.power ∧
    (hearClose number set s).readsDone = s.readsDone ∧ (hearClose number set s).clock = s.clock ∧
    (hearClose number set s).meas = s.meas ∧ (hearClose number set s).cfg = s.cfg ∧
    (hearClose number set s).en = s.en ∧ (hearClose number set s).tags = s.tags ∧
    (hearClose number set s).bat = s.bat ∧ (hearClose number set s).stage = s.stage ∧
    (hearClose number set s).cap = s.cap := by
  unfold hearClose; try dsimp only
  all_goals simp

@[simp] theorem takeBlockSet_frame (number : Byte) (s : State) :
    (takeBlockSet number s).pending = s.pending ∧ (takeBlockSet number s).power = s.power ∧
    (takeBlockSet number s).readsDone = s.readsDone ∧ (takeBlockSet number s).clock = s.clock ∧
    (takeBlockSet number s).cfg = s.cfg ∧ (takeBlockSet number s).seq = s.seq ∧
    (takeBlockSet number s).bat = s.bat ∧ (takeBlockSet number s).stage = s.stage ∧
    (takeBlockSet number s).cap = s.cap := by
  unfold takeBlockSet; try dsimp only
  all_goals simp

@[simp] theorem takeBlockClear_frame (number : Byte) (s : State) :
    (takeBlockClear number s).pending = s.pending ∧ (takeBlockClear number s).power = s.power ∧
    (takeBlockClear number s).readsDone = s.readsDone ∧ (takeBlockClear number s).clock = s.clock ∧
    (takeBlockClear number s).cfg = s.cfg ∧ (takeBlockClear number s).seq = s.seq ∧
    (takeBlockClear number s).bat = s.bat ∧ (takeBlockClear number s).stage = s.stage ∧
    (takeBlockClear number s).cap = s.cap := by
  unfold takeBlockClear; try dsimp only
  all_goals simp

@[simp] theorem takeTimeSync_frame (number : Byte) (seconds : Wide) (word : Half) (s : State) :
    (takeTimeSync number seconds word s).pending = s.pending ∧
    (takeTimeSync number seconds word s).power = s.power ∧
    (takeTimeSync number seconds word s).readsDone = s.readsDone ∧
    (takeTimeSync number seconds word s).meas = s.meas ∧
    (takeTimeSync number seconds word s).cfg = s.cfg ∧
    (takeTimeSync number seconds word s).seq = s.seq ∧
    (takeTimeSync number seconds word s).en = s.en ∧
    (takeTimeSync number seconds word s).tags = s.tags ∧
    (takeTimeSync number seconds word s).bat = s.bat ∧
    (takeTimeSync number seconds word s).stage = s.stage ∧
    (takeTimeSync number seconds word s).cap = s.cap := by
  unfold takeTimeSync; try dsimp only
  repeat' split
  all_goals simp

@[simp] theorem takeTagQuery_frame (number : Byte) (s : State) :
    (takeTagQuery number s).pending = s.pending ∧ (takeTagQuery number s).power = s.power ∧
    (takeTagQuery number s).readsDone = s.readsDone ∧ (takeTagQuery number s).clock = s.clock ∧
    (takeTagQuery number s).meas = s.meas ∧ (takeTagQuery number s).cfg = s.cfg ∧
    (takeTagQuery number s).seq = s.seq ∧ (takeTagQuery number s).en = s.en ∧
    (takeTagQuery number s).tags = s.tags ∧ (takeTagQuery number s).bat = s.bat ∧
    (takeTagQuery number s).stage = s.stage ∧ (takeTagQuery number s).cap = s.cap := by
  unfold takeTagQuery; try dsimp only
  all_goals simp

@[simp] theorem badLengthCommand_frame (kind number : Byte) (s : State) :
    (badLengthCommand kind number s).pending = s.pending ∧
    (badLengthCommand kind number s).power = s.power ∧
    (badLengthCommand kind number s).readsDone = s.readsDone ∧
    (badLengthCommand kind number s).clock = s.clock ∧
    (badLengthCommand kind number s).meas = s.meas ∧ (badLengthCommand kind number s).cfg = s.cfg ∧
    (badLengthCommand kind number s).seq = s.seq ∧ (badLengthCommand kind number s).en = s.en ∧
    (badLengthCommand kind number s).tags = s.tags ∧ (badLengthCommand kind number s).bat = s.bat ∧
    (badLengthCommand kind number s).stage = s.stage ∧ (badLengthCommand kind number s).cap = s.cap := by
  unfold badLengthCommand; try dsimp only
  all_goals simp

@[simp] theorem takeCommand_frame (kind number : Byte) (body : List Byte) (s : State) :
    (takeCommand kind number body s).pending = s.pending ∧
    (takeCommand kind number body s).power = s.power ∧
    (takeCommand kind number body s).readsDone = s.readsDone ∧
    (takeCommand kind number body s).cfg = s.cfg ∧ (takeCommand kind number body s).bat = s.bat ∧
    (takeCommand kind number body s).stage = s.stage ∧ (takeCommand kind number body s).cap = s.cap := by
  unfold takeCommand bareCommand setCommand timeCommand badLengthCommand
  (repeat' split) <;> simp

@[simp] theorem takePacket_frame (p : List Byte) (s : State) :
    (takePacket p s).pending = s.pending ∧ (takePacket p s).power = s.power ∧
    (takePacket p s).readsDone = s.readsDone ∧ (takePacket p s).cfg = s.cfg ∧
    (takePacket p s).bat = s.bat ∧ (takePacket p s).stage = s.stage ∧ (takePacket p s).cap = s.cap := by
  unfold takePacket; try dsimp only
  repeat' split
  all_goals simp

@[simp] theorem restartRadio_frame (s : State) :
    (restartRadio s).pending = s.pending ∧ (restartRadio s).power = s.power ∧
    (restartRadio s).readsDone = s.readsDone ∧ (restartRadio s).clock = s.clock ∧
    (restartRadio s).meas = s.meas ∧ (restartRadio s).cfg = s.cfg ∧ (restartRadio s).seq = s.seq ∧
    (restartRadio s).en = s.en ∧ (restartRadio s).tags = s.tags ∧ (restartRadio s).bat = s.bat ∧
    (restartRadio s).stage = s.stage ∧ (restartRadio s).cap = s.cap := by
  unfold restartRadio; try dsimp only
  all_goals simp


/-! ## Machine/Radio -/

@[simp] theorem serveRestartRadio_frame (id : Nat) (s : State) :
    (serveRestartRadio id s).pending = s.pending ∧ (serveRestartRadio id s).power = s.power ∧
    (serveRestartRadio id s).readsDone = s.readsDone ∧ (serveRestartRadio id s).clock = s.clock ∧
    (serveRestartRadio id s).meas = s.meas ∧ (serveRestartRadio id s).cfg = s.cfg ∧
    (serveRestartRadio id s).seq = s.seq ∧ (serveRestartRadio id s).en = s.en ∧
    (serveRestartRadio id s).tags = s.tags ∧ (serveRestartRadio id s).bat = s.bat ∧
    (serveRestartRadio id s).stage = s.stage ∧ (serveRestartRadio id s).cap = s.cap := by
  unfold serveRestartRadio; try dsimp only
  all_goals simp

end Sys2Proof.Machine
end

