-- ==== Sys2Proof/Laws/LinkFrames.lean ====
section
/-! SUPPORT. What the operations of the cabinet link controller and of starting leave alone. -/

namespace Sys2Proof.Machine

/-! ## Machine/CabinetOps -/

@[simp] theorem serveAttnGet_frame (id : Nat) (s : State) :
    (serveAttnGet id s).pending = s.pending ∧ (serveAttnGet id s).power = s.power ∧
    (serveAttnGet id s).readsDone = s.readsDone ∧ (serveAttnGet id s).clock = s.clock ∧
    (serveAttnGet id s).meas = s.meas ∧ (serveAttnGet id s).cfg = s.cfg ∧
    (serveAttnGet id s).seq = s.seq ∧ (serveAttnGet id s).en = s.en ∧
    (serveAttnGet id s).tags = s.tags ∧ (serveAttnGet id s).bat = s.bat ∧
    (serveAttnGet id s).stage = s.stage ∧ (serveAttnGet id s).eq = s.eq ∧
    (serveAttnGet id s).rad = s.rad ∧ (serveAttnGet id s).cap = s.cap := by
  unfold serveAttnGet; try dsimp only
  all_goals simp

@[simp] theorem serveAttnClear_frame (flags : Byte) (id : Nat) (s : State) :
    (serveAttnClear flags id s).pending = s.pending ∧ (serveAttnClear flags id s).power = s.power ∧
    (serveAttnClear flags id s).readsDone = s.readsDone ∧
    (serveAttnClear flags id s).clock = s.clock ∧ (serveAttnClear flags id s).meas = s.meas ∧
    (serveAttnClear flags id s).cfg = s.cfg ∧ (serveAttnClear flags id s).seq = s.seq ∧
    (serveAttnClear flags id s).en = s.en ∧ (serveAttnClear flags id s).tags = s.tags ∧
    (serveAttnClear flags id s).bat = s.bat ∧ (serveAttnClear flags id s).stage = s.stage ∧
    (serveAttnClear flags id s).eq = s.eq ∧ (serveAttnClear flags id s).rad = s.rad ∧
    (serveAttnClear flags id s).cap = s.cap := by
  unfold serveAttnClear; try dsimp only
  repeat' split
  all_goals simp

@[simp] theorem serveAttnMask_frame (mask : Byte) (id : Nat) (s : State) :
    (serveAttnMask mask id s).pending = s.pending ∧ (serveAttnMask mask id s).power = s.power ∧
    (serveAttnMask mask id s).readsDone = s.readsDone ∧ (serveAttnMask mask id s).clock = s.clock ∧
    (serveAttnMask mask id s).meas = s.meas ∧ (serveAttnMask mask id s).cfg = s.cfg ∧
    (serveAttnMask mask id s).seq = s.seq ∧ (serveAttnMask mask id s).en = s.en ∧
    (serveAttnMask mask id s).tags = s.tags ∧ (serveAttnMask mask id s).bat = s.bat ∧
    (serveAttnMask mask id s).stage = s.stage ∧ (serveAttnMask mask id s).eq = s.eq ∧
    (serveAttnMask mask id s).rad = s.rad ∧ (serveAttnMask mask id s).cap = s.cap := by
  unfold serveAttnMask; try dsimp only
  repeat' split
  all_goals simp

@[simp] theorem serveStatusGet_frame (id : Nat) (s : State) :
    (serveStatusGet id s).pending = s.pending ∧ (serveStatusGet id s).power = s.power ∧
    (serveStatusGet id s).readsDone = s.readsDone ∧ (serveStatusGet id s).clock = s.clock ∧
    (serveStatusGet id s).meas = s.meas ∧ (serveStatusGet id s).cfg = s.cfg ∧
    (serveStatusGet id s).seq = s.seq ∧ (serveStatusGet id s).en = s.en ∧
    (serveStatusGet id s).tags = s.tags ∧ (serveStatusGet id s).bat = s.bat ∧
    (serveStatusGet id s).stage = s.stage ∧ (serveStatusGet id s).eq = s.eq ∧
    (serveStatusGet id s).rad = s.rad ∧ (serveStatusGet id s).cap = s.cap := by
  unfold serveStatusGet; try dsimp only
  all_goals simp

@[simp] theorem serveBlockRestart_frame (name : Byte) (id : Nat) (s : State) :
    (serveBlockRestart name id s).pending = s.pending ∧
    (serveBlockRestart name id s).power = s.power ∧
    (serveBlockRestart name id s).readsDone = s.readsDone ∧
    (serveBlockRestart name id s).clock = s.clock ∧ (serveBlockRestart name id s).meas = s.meas ∧
    (serveBlockRestart name id s).cfg = s.cfg ∧ (serveBlockRestart name id s).seq = s.seq ∧
    (serveBlockRestart name id s).en = s.en ∧ (serveBlockRestart name id s).tags = s.tags ∧
    (serveBlockRestart name id s).stage = s.stage := by
  unfold serveBlockRestart; try dsimp only
  repeat' split
  all_goals simp

@[simp] theorem dropFrame_frame (s : State) :
    (dropFrame s).pending = s.pending ∧ (dropFrame s).power = s.power ∧
    (dropFrame s).readsDone = s.readsDone ∧ (dropFrame s).clock = s.clock ∧
    (dropFrame s).meas = s.meas ∧ (dropFrame s).cfg = s.cfg ∧ (dropFrame s).seq = s.seq ∧
    (dropFrame s).en = s.en ∧ (dropFrame s).tags = s.tags ∧ (dropFrame s).bat = s.bat ∧
    (dropFrame s).stage = s.stage ∧ (dropFrame s).eq = s.eq ∧ (dropFrame s).rad = s.rad ∧
    (dropFrame s).cap = s.cap := by
  unfold dropFrame; try dsimp only
  all_goals simp

/-! A request leaves alone a part of the state that its owner, the cabinet link controller's own state and
the fetch wait leave alone. -/

theorem takeFrame_keeps {α : Type} (part : State → α) (hcab : ∀ s c, part { s with cab := c } = part s)
    (heq : ∀ s e, part { s with eq := e } = part s) (kind tag : Byte) (d : Dispatch)
    (hd : ∀ owner, d = .serve owner → ∀ id s, part (owner id s) = part s) (s : State) :
    part (takeFrame kind tag d s) = part s := by
  have hform : ∀ k t c b s, part (formReply k t c b s) = part s := fun k t c b s => hcab s _
  have hans : ∀ r c b s, part (answer r c b s) = part s := by
    intro r c b s
    unfold answer
    split
    · rfl
    · split
      · exact (hform _ _ _ _ _).trans (hcab s _)
      · rfl
  have hend : part (endFetchEmpty s) = part s := by
    unfold endFetchEmpty
    split
    · rfl
    · exact (hans _ _ _ _).trans (heq s _)
  unfold takeFrame
  split
  · unfold takeFrameBehindFetch
    split
    · exact (hform _ _ _ _ _).trans hend
    · split
      · exact (hform _ _ _ _ _).trans hend
      · exact (hd _ rfl _ _).trans ((hcab _ _).trans hend)
  · exact hform _ _ _ _ _

theorem request_keeps {α : Type} (part : State → α) (hcab : ∀ s c, part { s with cab := c } = part s)
    (heq : ∀ s e, part { s with eq := e } = part s) (kind tag : Byte) (owner : Nat → State → State)
    (ho : ∀ id s, part (owner id s) = part s) (s : State) :
    part (request kind tag owner s) = part s :=
  takeFrame_keeps part hcab heq kind tag _ (fun _ h => by cases h; exact ho) s

/-- What every owner of a request leaves alone, a table of kinds leaves alone. -/
theorem frameDispatch_keeps (kind : Byte) (body : List Byte) (owner : Nat → State → State)
    (h : frameDispatch kind body = .serve owner) (id : Nat) (s : State) :
    (owner id s).pending = s.pending ∧ (owner id s).power = s.power
      ∧ (owner id s).readsDone = s.readsDone := by
  unfold frameDispatch at h
  split at h <;>
    (try simp only [noBody, oneByte, byteHalf, timeBody, counterBody, captureBody, releaseBody,
      writeBody, readBody, settingsWriteDispatch] at h) <;>
    (repeat' split at h) <;> cases h <;> simp


@[simp] theorem closeFrame_frame (bytes : List Byte) (s : State) :
    (closeFrame bytes s).pending = s.pending ∧ (closeFrame bytes s).power = s.power ∧
    (closeFrame bytes s).readsDone = s.readsDone := by
  unfold closeFrame; split; case h_2 => simp
  dsimp only; split; case isFalse => simp
  refine ⟨takeFrame_keeps (·.pending) ?_ ?_ _ _ _ ?_ _, takeFrame_keeps (·.power) ?_ ?_ _ _ _ ?_ _,
    takeFrame_keeps (·.readsDone) ?_ ?_ _ _ _ ?_ _⟩ <;> first
      | exact fun _ _ => rfl
      | exact fun owner h id s => by simpa using (frameDispatch_keeps _ _ owner h id s).1
      | exact fun owner h id s => by simpa using (frameDispatch_keeps _ _ owner h id s).2.1
      | exact fun owner h id s => by simpa using (frameDispatch_keeps _ _ owner h id s).2.2

@[simp] theorem judgeFrame_frame (s : State) :
    (judgeFrame s).pending = s.pending ∧ (judgeFrame s).power = s.power ∧
    (judgeFrame s).readsDone = s.readsDone := by
  unfold judgeFrame; try dsimp only
  repeat' split
  all_goals simp

@[simp] theorem cabinetByte_frame (b : Byte) (s : State) :
    (cabinetByte b s).pending = s.pending ∧ (cabinetByte b s).power = s.power ∧
    (cabinetByte b s).readsDone = s.readsDone := by
  unfold cabinetByte; try dsimp only
  repeat' split
  all_goals simp

@[simp] theorem cabinetBytes_frame (x : List Byte) (s : State) :
    (cabinetBytes x s).pending = s.pending ∧ (cabinetBytes x s).power = s.power ∧
    (cabinetBytes x s).readsDone = s.readsDone := by
  induction x generalizing s <;> unfold cabinetBytes <;> simp_all

@[simp] theorem takePowerOff_frame (s : State) :
    (takePowerOff s).pending = s.pending ∧ (takePowerOff s).power = s.power ∧
    (takePowerOff s).readsDone = s.readsDone ∧ (takePowerOff s).clock = s.clock ∧
    (takePowerOff s).meas = s.meas ∧ (takePowerOff s).cfg = s.cfg ∧ (takePowerOff s).seq = s.seq ∧
    (takePowerOff s).en = s.en ∧ (takePowerOff s).tags = s.tags ∧ (takePowerOff s).bat = s.bat ∧
    (takePowerOff s).stage = s.stage ∧ (takePowerOff s).rad = s.rad ∧ (takePowerOff s).cap = s.cap := by
  unfold takePowerOff; try dsimp only
  all_goals simp

@[simp] theorem takePowerOn_frame (s : State) :
    (takePowerOn s).pending = s.pending ∧ (takePowerOn s).power = s.power ∧
    (takePowerOn s).readsDone = s.readsDone ∧ (takePowerOn s).clock = s.clock ∧
    (takePowerOn s).meas = s.meas ∧ (takePowerOn s).cfg = s.cfg ∧ (takePowerOn s).seq = s.seq ∧
    (takePowerOn s).en = s.en ∧ (takePowerOn s).tags = s.tags ∧ (takePowerOn s).bat = s.bat ∧
    (takePowerOn s).stage = s.stage ∧ (takePowerOn s).eq = s.eq ∧ (takePowerOn s).rad = s.rad ∧
    (takePowerOn s).cap = s.cap := by
  unfold takePowerOn; try dsimp only
  all_goals simp


/-! ## Machine/StartUp -/

@[simp] theorem restoreRecord_frame (c : RetainedContent) (s : State) :
    (restoreRecord c s).pending = s.pending ∧ (restoreRecord c s).power = s.power ∧
    (restoreRecord c s).readsDone = s.readsDone ∧ (restoreRecord c s).clock = s.clock ∧
    (restoreRecord c s).cfg = s.cfg ∧ (restoreRecord c s).seq = s.seq ∧
    (restoreRecord c s).bat = s.bat ∧ (restoreRecord c s).stage = s.stage ∧
    (restoreRecord c s).rad = s.rad ∧ (restoreRecord c s).cap = s.cap := by
  unfold restoreRecord; try dsimp only
  all_goals simp

@[simp] theorem loseRecord_frame (check : LostCheck) (s : State) :
    (loseRecord check s).pending = s.pending ∧ (loseRecord check s).power = s.power ∧
    (loseRecord check s).readsDone = s.readsDone ∧ (loseRecord check s).clock = s.clock ∧
    (loseRecord check s).cfg = s.cfg ∧ (loseRecord check s).seq = s.seq ∧
    (loseRecord check s).bat = s.bat ∧ (loseRecord check s).stage = s.stage ∧
    (loseRecord check s).rad = s.rad ∧ (loseRecord check s).cap = s.cap := by
  unfold loseRecord; try dsimp only
  all_goals simp

@[simp] theorem readRecord_frame (s : State) :
    (readRecord s).pending = s.pending ∧ (readRecord s).power = s.power ∧
    (readRecord s).readsDone = s.readsDone ∧ (readRecord s).clock = s.clock ∧
    (readRecord s).cfg = s.cfg ∧ (readRecord s).seq = s.seq ∧ (readRecord s).bat = s.bat ∧
    (readRecord s).stage = s.stage ∧ (readRecord s).rad = s.rad ∧ (readRecord s).cap = s.cap := by
  unfold readRecord; try dsimp only
  repeat' split
  all_goals simp

@[simp] theorem defaultBlock_frame (b : BlockName) (s : State) :
    (defaultBlock b s).pending = s.pending ∧ (defaultBlock b s).power = s.power ∧
    (defaultBlock b s).readsDone = s.readsDone ∧ (defaultBlock b s).clock = s.clock ∧
    (defaultBlock b s).seq = s.seq ∧ (defaultBlock b s).bat = s.bat ∧
    (defaultBlock b s).stage = s.stage ∧ (defaultBlock b s).eq = s.eq ∧
    (defaultBlock b s).rad = s.rad ∧ (defaultBlock b s).cap = s.cap := by
  unfold defaultBlock; try dsimp only
  repeat' split
  all_goals simp

@[simp] theorem readBlock_frame (b : BlockName) (s : State) :
    (readBlock b s).pending = s.pending ∧ (readBlock b s).power = s.power ∧
    (readBlock b s).readsDone = s.readsDone ∧ (readBlock b s).clock = s.clock ∧
    (readBlock b s).seq = s.seq ∧ (readBlock b s).bat = s.bat ∧ (readBlock b s).stage = s.stage ∧
    (readBlock b s).eq = s.eq ∧ (readBlock b s).rad = s.rad ∧ (readBlock b s).cap = s.cap := by
  unfold readBlock; try dsimp only
  repeat' split
  all_goals simp

@[simp] theorem readBlocks_frame (x : List BlockName) (s : State) :
    (readBlocks x s).pending = s.pending ∧ (readBlocks x s).power = s.power ∧
    (readBlocks x s).readsDone = s.readsDone ∧ (readBlocks x s).clock = s.clock ∧
    (readBlocks x s).seq = s.seq ∧ (readBlocks x s).bat = s.bat ∧
    (readBlocks x s).stage = s.stage ∧ (readBlocks x s).eq = s.eq ∧ (readBlocks x s).rad = s.rad ∧
    (readBlocks x s).cap = s.cap := by
  induction x generalizing s <;> unfold readBlocks <;> simp_all

@[simp] theorem takeStartSignals_frame (s : State) :
    (takeStartSignals s).pending = s.pending ∧ (takeStartSignals s).power = s.power ∧
    (takeStartSignals s).readsDone = s.readsDone ∧ (takeStartSignals s).clock = s.clock ∧
    (takeStartSignals s).meas = s.meas ∧ (takeStartSignals s).cfg = s.cfg ∧
    (takeStartSignals s).en = s.en ∧ (takeStartSignals s).tags = s.tags ∧
    (takeStartSignals s).bat = s.bat ∧ (takeStartSignals s).stage = s.stage ∧
    (takeStartSignals s).eq = s.eq ∧ (takeStartSignals s).rad = s.rad ∧
    (takeStartSignals s).cap = s.cap := by
  unfold takeStartSignals; try dsimp only
  all_goals simp

@[simp] theorem startTestTimer_frame (s : State) :
    (startTestTimer s).pending = s.pending ∧ (startTestTimer s).power = s.power ∧
    (startTestTimer s).readsDone = s.readsDone ∧ (startTestTimer s).clock = s.clock ∧
    (startTestTimer s).meas = s.meas ∧ (startTestTimer s).cfg = s.cfg ∧
    (startTestTimer s).seq = s.seq ∧ (startTestTimer s).en = s.en ∧
    (startTestTimer s).tags = s.tags ∧ (startTestTimer s).stage = s.stage ∧
    (startTestTimer s).eq = s.eq ∧ (startTestTimer s).rad = s.rad ∧ (startTestTimer s).cap = s.cap := by
  unfold startTestTimer; try dsimp only
  all_goals simp

@[simp] theorem startSegments_frame (s : State) :
    (startSegments s).pending = s.pending ∧ (startSegments s).power = s.power ∧
    (startSegments s).readsDone = s.readsDone ∧ (startSegments s).clock = s.clock ∧
    (startSegments s).meas = s.meas ∧ (startSegments s).cfg = s.cfg ∧
    (startSegments s).seq = s.seq ∧ (startSegments s).en = s.en ∧ (startSegments s).tags = s.tags ∧
    (startSegments s).bat = s.bat ∧ (startSegments s).stage = s.stage ∧
    (startSegments s).eq = s.eq ∧ (startSegments s).rad = s.rad := by
  unfold startSegments; try dsimp only
  all_goals simp

@[simp] theorem judgeSetUp_frame (s : State) :
    (judgeSetUp s).pending = s.pending ∧ (judgeSetUp s).power = s.power ∧
    (judgeSetUp s).readsDone = s.readsDone ∧ (judgeSetUp s).clock = s.clock ∧
    (judgeSetUp s).meas = s.meas ∧ (judgeSetUp s).cfg = s.cfg ∧ (judgeSetUp s).en = s.en ∧
    (judgeSetUp s).tags = s.tags ∧ (judgeSetUp s).bat = s.bat ∧ (judgeSetUp s).stage = s.stage ∧
    (judgeSetUp s).eq = s.eq ∧ (judgeSetUp s).rad = s.rad ∧ (judgeSetUp s).cap = s.cap := by
  unfold judgeSetUp; try dsimp only
  repeat' split
  all_goals simp

@[simp] theorem completeReads_frame (s : State) :
    (completeReads s).pending = s.pending ∧ (completeReads s).power = s.power ∧
    (completeReads s).clock = s.clock ∧ (completeReads s).stage = s.stage := by
  unfold completeReads; try dsimp only
  all_goals simp

@[simp] theorem reportStartPole_frame (l : InputLevels) (p : Pole) (s : State) :
    (reportStartPole l p s).pending = s.pending ∧ (reportStartPole l p s).power = s.power ∧
    (reportStartPole l p s).readsDone = s.readsDone ∧ (reportStartPole l p s).clock = s.clock ∧
    (reportStartPole l p s).meas = s.meas ∧ (reportStartPole l p s).cfg = s.cfg ∧
    (reportStartPole l p s).seq = s.seq ∧ (reportStartPole l p s).en = s.en ∧
    (reportStartPole l p s).tags = s.tags ∧ (reportStartPole l p s).bat = s.bat ∧
    (reportStartPole l p s).stage = s.stage ∧ (reportStartPole l p s).eq = s.eq ∧
    (reportStartPole l p s).rad = s.rad ∧ (reportStartPole l p s).cap = s.cap := by
  unfold reportStartPole; try dsimp only
  repeat' split
  all_goals simp

@[simp] theorem settleInputs_frame (l : InputLevels) (s : State) :
    (settleInputs l s).pending = s.pending ∧ (settleInputs l s).power = s.power ∧
    (settleInputs l s).readsDone = s.readsDone ∧ (settleInputs l s).clock = s.clock ∧
    (settleInputs l s).cfg = s.cfg ∧ (settleInputs l s).tags = s.tags ∧
    (settleInputs l s).bat = s.bat ∧ (settleInputs l s).stage = s.stage ∧
    (settleInputs l s).eq = s.eq ∧ (settleInputs l s).rad = s.rad ∧ (settleInputs l s).cap = s.cap := by
  unfold settleInputs; try dsimp only
  all_goals simp

end Sys2Proof.Machine
end

