-- ==== Sys2Proof/Laws/Ops.lean ====
section
/-! SUPPORT. What each shared operation does, said once, so that a proof cites a lemma in place of
unfolding the operation. -/

namespace Sys2Proof

/-! ## Poles -/

namespace Tri

theorem ext_get {α : Type} {x y : Tri α} (h : ∀ p, x.get p = y.get p) : x = y := by
  cases x; cases y
  have ha := h .a
  have hb := h .b
  have hc := h .c
  simp_all [Tri.get]

@[simp] theorem get_of {α : Type} (f : Pole → α) (p : Pole) : (Tri.of f).get p = f p := by
  cases p <;> rfl

@[simp] theorem get_map {α β : Type} (f : α → β) (t : Tri α) (p : Pole) :
    (t.map f).get p = f (t.get p) := by cases p <;> rfl

@[simp] theorem get_all {α : Type} (v : α) (p : Pole) : (Tri.all v).get p = v := by cases p <;> rfl

@[simp] theorem get_set {α : Type} (t : Tri α) (p q : Pole) (v : α) :
    (t.set p v).get q = if q = p then v else t.get q := by cases p <;> cases q <;> rfl

@[simp] theorem get_single (p q : Pole) : (Tri.single p).get q = decide (q = p) := by
  cases p <;> cases q <;> rfl

@[simp] theorem get_full (p : Pole) : Tri.full.get p = true := by cases p <;> rfl

@[simp] theorem get_empty (p : Pole) : Tri.empty.get p = false := by cases p <;> rfl

@[simp] theorem get_union (x y : PoleSet) (p : Pole) : (x.union y).get p = (x.get p || y.get p) := by
  cases p <;> rfl

@[simp] theorem get_inter (x y : PoleSet) (p : Pole) : (x.inter y).get p = (x.get p && y.get p) := by
  cases p <;> rfl

@[simp] theorem get_diff (x y : PoleSet) (p : Pole) : (x.diff y).get p = (x.get p && !y.get p) := by
  cases p <;> rfl

@[simp] theorem mem_poles (x : PoleSet) (p : Pole) : p ∈ x.poles ↔ x.get p = true := by
  cases x; cases p <;> simp [Tri.poles, Tri.get]

theorem isEmpty_iff (x : PoleSet) : x.isEmpty = true ↔ ∀ p, x.get p = false := by
  constructor
  · intro h p
    cases p <;> simp_all [Tri.isEmpty, Tri.get]
  · intro h
    have ha := h .a
    have hb := h .b
    have hc := h .c
    simp_all [Tri.isEmpty, Tri.get]

theorem not_isEmpty_iff (x : PoleSet) : x.isEmpty = false ↔ ∃ p, x.get p = true := by
  constructor
  · intro h
    cases ha : x.a
    · cases hb : x.b
      · cases hc : x.c
        · simp_all [Tri.isEmpty]
        · exact ⟨.c, hc⟩
      · exact ⟨.b, hb⟩
    · exact ⟨.a, ha⟩
  · rintro ⟨p, hp⟩
    cases p <;> simp_all [Tri.isEmpty, Tri.get]

theorem meets_iff (x y : PoleSet) : x.meets y = true ↔ ∃ p, x.get p = true ∧ y.get p = true := by
  have h := not_isEmpty_iff (x.inter y)
  simp only [get_inter, Bool.and_eq_true] at h
  simp [Tri.meets, h]

end Tri

namespace Machine

/-! ## The part's running condition and timers (R119, R126) -/

theorem whenRunning_running {f : State → State} {s : State} (h : s.power = .running) :
    whenRunning f s = .next (f s) := by simp [whenRunning, h]

theorem whenRunning_stopped {f : State → State} {s : State} (h : s.power ≠ .running) :
    whenRunning f s = .next s := by
  unfold whenRunning
  cases hp : s.power <;> simp_all

@[simp] theorem due_some (d : Nat) (s : State) : due (some d) s = decide (d ≤ s.elapsed) := rfl

@[simp] theorem due_none (s : State) : due none s = false := rfl

/-- A raised record is the statements' `withRecord`. -/
theorem raise_eq (source : RecordSource) (body : EventBody) (s : State) :
    raise source body s = withRecord source body s := rfl

/-! ## Cabinet requests (R170) -/

theorem answer_owed {id : Nat} {o : OwedReply} {s : State} (h : s.cab.owed = some o)
    (hid : o.request = id) (code : ResultCode) (content : ReplyContent) :
    answer id code content s = { s with cab := { s.cab with
      owed := none, replies := s.cab.replies ++
        [{ kind := o.kind, tag := o.tag, code := code, content := content }] } } := by
  simp [answer, h, hid, formReply]

theorem answer_abandoned {id : Nat} {s : State} (h : ∀ o, s.cab.owed = some o → o.request ≠ id)
    (code : ResultCode) (content : ReplyContent) : answer id code content s = s := by
  unfold answer
  split
  · rfl
  · rename_i o ho
    simp [h o ho]

/-- A request that finds the link ready is dispatched: its owner gets it with the reply owed. -/
theorem request_ready {kind tag : Byte} {owner : Nat → State → State} {s : State} (h : Ready s) :
    request kind tag owner s = owner s.cab.nextRequest (owing kind tag s) := by
  obtain ⟨-, hs, hf, ho⟩ := h
  simp [request, takeFrame, hs, endFetchEmpty, hf, takeFrameBehindFetch, ho, dispatch, owing]

/-- The answer given at once to a request that has just been dispatched. -/
theorem answer_owing (kind tag : Byte) (code : ResultCode) (content : ReplyContent) (s : State) :
    answer s.cab.nextRequest code content (owing kind tag s) = replied kind tag code content s := by
  simp [answer, owing, formReply, replied]

/-- A request answered from the state as it stands. -/
theorem request_answered {kind tag : Byte} {code : State → ResultCode} {content : State → ReplyContent}
    {s : State} (h : Ready s)
    (hc : code (owing kind tag s) = code s) (hb : content (owing kind tag s) = content s) :
    request kind tag (fun id s => answer id (code s) (content s) s) s
      = replied kind tag (code s) (content s) s := by
  rw [request_ready h, hc, hb, answer_owing]

/-- A request before the start has completed is answered BUSY. -/
theorem request_before_start {kind tag : Byte} {owner : Nat → State → State} {s : State}
    (h : s.cab.started = false) :
    request kind tag owner s = formReply kind tag .busy .nothing s := by
  simp [request, takeFrame, h]

/-- A request while a reply is owed is answered BUSY. -/
theorem request_while_owed {kind tag : Byte} {owner : Nat → State → State} {s : State}
    (hs : s.cab.started = true) (hf : s.eq.fetch = none) (ho : s.cab.owed.isSome = true) :
    request kind tag owner s = formReply kind tag .busy .nothing s := by
  obtain ⟨o, ho⟩ := Option.isSome_iff_exists.mp ho
  simp [request, takeFrame, hs, endFetchEmpty, hf, takeFrameBehindFetch, ho]

/-! ## Records, requests and notices of the sequence controller -/

@[simp] theorem mapRecs_get (ps : PoleSet) (f : SeqRecord → SeqRecord) (s : State) (p : Pole) :
    (mapRecs ps f s).seq.recs.get p = if ps.get p then f (s.seq.recs.get p) else s.seq.recs.get p := by
  simp [mapRecs]

theorem mapRecs_eq (ps : PoleSet) (f : SeqRecord → SeqRecord) (s : State) :
    mapRecs ps f s = { s with seq := { s.seq with recs := (mapRecs ps f s).seq.recs } } := rfl

@[simp] theorem polesWhere_get (s : State) (f : SeqRecord → Bool) (p : Pole) :
    (polesWhere s f).get p = f (s.seq.recs.get p) := by simp [polesWhere]

theorem widen_ganged {s : State} (h : s.cfg.prot.tripMode = .ganged) (ps : PoleSet) :
    widen s ps = Tri.full := by simp [widen, h]

theorem widen_single {s : State} (h : s.cfg.prot.tripMode = .single) (ps : PoleSet) :
    widen s ps = ps := by simp [widen, h]

theorem widen_get {s : State} {ps : PoleSet} {p : Pole} (h : ps.get p = true) :
    (widen s ps).get p = true := by
  unfold widen
  split
  · exact Tri.get_full p
  · exact h

/-! ## Lockouts, granted closes and judged requests (R37, R44, R50) -/

@[simp] theorem lockedPoles_get (s : State) (p : Pole) :
    (lockedPoles s).get p = decide ((s.seq.recs.get p).state = .lockout) := by
  cases p <;> rfl

/-- A request that records with a trip in hand have joined is judged, whatever its origin. -/
theorem judgeRequest_joined {joined : PoleSet} (h : joined.isEmpty = false) (poles opened : PoleSet)
    (s : State) : judgeRequest joined poles opened s = judgeTrip poles opened s := by
  simp [judgeRequest, h]

/-- A request that no record with a trip in hand has joined raises nothing and clears nothing. -/
theorem judgeRequest_empty {joined : PoleSet} (h : joined.isEmpty = true) (poles opened : PoleSet)
    (s : State) : judgeRequest joined poles opened s = s := by simp [judgeRequest, h]

theorem takeCloseGrant_single {s : State} (h : s.cfg.prot.tripMode = .single) (poles : PoleSet) :
    takeCloseGrant poles s = mapRecs poles SeqRecord.grantClose s := by
  simp [takeCloseGrant, h]

/-- In GANGED mode a granted close moves all three records to CLOSING with the close origin of one that it
names, or is taken by the records of its set, none of which moves. -/
theorem takeCloseGrant_ganged {s : State} (h : s.cfg.prot.tripMode = .ganged) (poles : PoleSet) :
    (∃ p, poles.get p = true ∧ (s.seq.recs.get p).closesOnGrant = true
        ∧ takeCloseGrant poles s = mapRecs Tri.full (SeqRecord.joinClosing (s.seq.recs.get p).closeOrigin) s)
      ∨ ((∀ p, poles.get p = true → (s.seq.recs.get p).closesOnGrant = false)
        ∧ takeCloseGrant poles s = mapRecs poles SeqRecord.grantClose s) := by
  have hmem : ∀ p, p ∈ (poles.inter (polesWhere s SeqRecord.closesOnGrant)).poles ↔
      poles.get p = true ∧ (s.seq.recs.get p).closesOnGrant = true := by
    simp
  cases hm : (poles.inter (polesWhere s SeqRecord.closesOnGrant)).poles with
  | nil =>
    refine .inr ⟨fun p hp => ?_, by simp [takeCloseGrant, h, hm]⟩
    cases hc : (s.seq.recs.get p).closesOnGrant with
    | false => rfl
    | true => simpa [hm] using (hmem p).mpr ⟨hp, hc⟩
  | cons p ps =>
    obtain ⟨hp, hc⟩ := (hmem p).mp (by simp [hm])
    exact .inl ⟨p, hp, hc, by simp [takeCloseGrant, h, hm]⟩

/-! ## The arbiter (R67) -/

theorem judgeArbiter_in_flight {s : State} (h : s.en.stroke.isSome = true) : judgeArbiter s = s := by
  obtain ⟨k, hk⟩ := Option.isSome_iff_exists.mp h
  simp [judgeArbiter, arbitrate, hk]

theorem judgeArbiter_empty {s : State} (h : s.en.queue = []) : judgeArbiter s = s := by
  unfold judgeArbiter arbitrate
  split <;> simp_all

/-- A head that is granted. -/
theorem judgeArbiter_grants {s : State} {r : StrokeRequest} {rest : List StrokeRequest}
    (hs : s.en.stroke = none) (hq : s.en.queue = r :: rest) (hp : headPermitted s r = true)
    (hd : (driveSet s.en.view r.kind r.poles).isEmpty = false) (he : energyReady s r = true) :
    judgeArbiter s = handStroke (grantNotice s r)
      { s with en := { s.en with queue := rest, stroke := some (newStroke s r) } } := by
  simp [judgeArbiter, arbitrate, hs, hq, hp, hd, he]

/-- A head that is completed without a stroke gives way to the next. -/
theorem judgeArbiter_completes {s : State} {r : StrokeRequest} {rest : List StrokeRequest}
    (hs : s.en.stroke = none) (hq : s.en.queue = r :: rest)
    (hd : (driveSet s.en.view r.kind r.poles).isEmpty = true) :
    judgeArbiter s = judgeArbiter (handStroke (emptyResult r)
      (handStroke (grantNotice s r) { s with en := { s.en with queue := rest } })) := by
  simp [judgeArbiter, arbitrate, hs, hq, hd, handStroke]

/-- A head that is held back. -/
theorem judgeArbiter_waits {s : State} {r : StrokeRequest} {rest : List StrokeRequest}
    (hs : s.en.stroke = none) (hq : s.en.queue = r :: rest)
    (hd : (driveSet s.en.view r.kind r.poles).isEmpty = false)
    (h : headPermitted s r = false ∨ energyReady s r = false) : judgeArbiter s = s := by
  rcases h with h | h <;> simp [judgeArbiter, arbitrate, hs, hq, hd, h]

/-! ## Withdrawals (R44, R66) -/

theorem unionPoles_get (l : List StrokeRequest) (p : Pole) :
    (unionPoles l).get p = l.any fun r => r.poles.get p := by
  suffices h : ∀ u : PoleSet, (l.foldl (fun u r => u.union r.poles) u).get p
      = (u.get p || l.any fun r => r.poles.get p) by simpa [unionPoles] using h Tri.empty
  induction l with
  | nil => simp
  | cons r l ih => intro u; simp [ih, Bool.or_assoc]

theorem takeWithdrawal_nothing {kind : StrokeKind} {poles : PoleSet} {s : State}
    (h : ∀ r ∈ s.en.queue, r.kind = kind → r.poles.meets poles = false) :
    takeWithdrawal kind poles s = s := by
  refine if_pos ((Tri.isEmpty_iff _).2 fun p => ?_)
  rw [Bool.eq_false_iff]
  intro hp
  simp only [waitingIn, Tri.get_inter, Bool.and_eq_true, unionPoles_get, List.any_eq_true,
    List.mem_filter, decide_eq_true_eq] at hp
  obtain ⟨hp, r, ⟨hr, hk⟩, hq⟩ := hp
  simpa [h r hr hk] using (Tri.meets_iff _ _).2 ⟨p, hq, hp⟩

@[simp] theorem judgeRequest_retries (joined poles opened : PoleSet) (s : State) :
    (judgeRequest joined poles opened s).seq.retries = s.seq.retries := by
  unfold judgeRequest judgeTrip
  dsimp only
  repeat' split
  all_goals simp [mapRecs]

@[simp] theorem judgeEnded_retries (l : List RetryGroup) (s : State) :
    (judgeEnded l s).seq.retries = s.seq.retries := by
  induction l generalizing s with
  | nil => rfl
  | cons g l ih => simp [judgeEnded, ih]

theorem dropRetries_retries (ps : PoleSet) (s : State) :
    (dropRetries ps s).seq.retries
      = (s.seq.retries.filter fun g => !(g.missed.meets (ps.diff (retryResults s))
          && (g.missed.diff (ps.diff (retryResults s))).isEmpty)).map
        (RetryGroup.without (ps.diff (retryResults s))) := by
  simp [dropRetries, RetryGroup.without]

/-! ## The battery test gate (R108) -/

theorem judgeGate_opens {s : State} (hw : s.bat.testState = .waiting) (hg : testGate s = true) :
    judgeGate s = beginTest s := by simp [judgeGate, hw, hg]

theorem judgeGate_holds {s : State} (h : s.bat.testState ≠ .waiting ∨ testGate s = false) :
    judgeGate s = s := by
  unfold judgeGate
  rcases h with h | h <;> simp [h]

/-! ## The power state (R61, R76, R117, R118) -/

/-- What setting the bank charger does: its state, and the notice of a change of "bank full". -/
theorem setBankCharger_eq (c : BankCharger) (s : State) :
    setBankCharger c s = { s with
      en := { s.en with charger := c, bankFullSaid := decide (c = .full) },
      mail := { s.mail with bank := s.mail.bank ++
        (if decide (s.en.charger = .full) = decide (c = .full) then [] else [decide (c = .full)]) } } := by
  simp only [setBankCharger]
  split <;> simp

/-- HOLDOVER reaches the actuator and energy unit. -/
theorem energyPowerState_holdover (s : State) :
    energyPowerState .holdover s
      = judgeArbiter (refuseCloses .holdover (fun _ => true) (setBankCharger .held s)) := rfl

/-- A state other than HOLDOVER releases a charger that is HELD. -/
theorem energyPowerState_released {q : PowerState} {s : State} (hq : q ≠ .holdover)
    (hc : s.en.charger = .held) :
    energyPowerState q s = judgeArbiter (setBankCharger (chargerReleased s.en.bank) s) := by
  simp [energyPowerState, hq, hc]

/-- A state other than HOLDOVER leaves a charger that is not HELD alone. -/
theorem energyPowerState_unheld {q : PowerState} {s : State} (hq : q ≠ .holdover)
    (hc : s.en.charger ≠ .held) : energyPowerState q s = judgeArbiter s := by
  simp [energyPowerState, hq, hc]

/-- What setting the cabinet switch does: its position, and the notice of a change. -/
theorem setCabinetSwitch_eq (s : State) :
    setCabinetSwitch s =
      (let on := cabinetSwitchFor s.bat.power s.bat.window.isSome
       { s with
         bat := { s.bat with cabinetSwitch := on },
         mail := { s.mail with cabinetPower := s.mail.cabinetPower ++
           (if on = s.bat.cabinetSwitch then [] else [on]) } }) := by
  unfold setCabinetSwitch
  dsimp only
  split
  · rename_i h
    simp [h]
  · rfl

/-! ## Stores (R121, R128) -/

theorem requestRewrite_idle {s : State} (h : s.ret.writing = none) :
    requestRewrite s = startRetainedWrite s := by simp [requestRewrite, h]

theorem requestRewrite_writing {s : State} (h : s.ret.writing.isSome = true) :
    requestRewrite s = { s with ret := { s.ret with rewrite := true } } := by
  obtain ⟨w, hw⟩ := Option.isSome_iff_exists.mp h
  simp [requestRewrite, hw]

/-- After a request for a rewrite a write is in flight. -/
theorem requestRewrite_writes (s : State) : (requestRewrite s).ret.writing.isSome = true := by
  unfold requestRewrite
  split
  · simp [startRetainedWrite]
  · rename_i h
    simp [h]

@[simp] theorem faultedChip_base (s : State) :
    (faultedChip s).content.base = s.ret.chip.content.base := rfl

theorem contentInForce_putInForce (cfg : InForce) (c : BlockContent) :
    contentInForce (putInForce cfg c) c.name = c := by
  cases c <;> simp [putInForce, contentInForce, BlockContent.name, Vector.get, Fin.cast]

theorem storedCopy_setStoredCopy (st : StoredSettings) (b : BlockName) (v : Option StoredBlock) :
    storedCopy (setStoredCopy st b v) b = v := by
  cases b <;> simp [setStoredCopy, storedCopy, Vector.get, Fin.cast]

/-! ## Joined requests and the change of trip mode (R44, R52, R64) -/

/-- An arrival that no record has joined leaves the waiting requests as they are. -/
@[simp] theorem joinRetries_empty (q : List StrokeRequest) : joinRetries Tri.empty q = q := by
  have h : (fun r : StrokeRequest =>
      if r.isTripOf 2 then { r with joined := r.joined.union (Tri.empty.inter r.poles) } else r) = id := by
    funext r
    cases r
    simp [Tri.union, Tri.inter, Tri.empty]
  simp [joinRetries, h]

/-- With every record in REST or TIMING a change to GANGED only lets the pickups reach all three. -/
theorem gangRecords_waking {s : State}
    (h : ∀ p, (s.seq.recs.get p).state = .rest ∨ (s.seq.recs.get p).state = .timing) :
    gangRecords s = joinPickups s := by
  have ha := h .a
  have hb := h .b
  have hc := h .c
  simp only [Tri.get] at ha hb hc
  simp [gangRecords, Tri.within, Tri.diff, Tri.isEmpty, Tri.full, polesWhere, Tri.map, ha, hb, hc]

/-! ## The apply points (R176) -/

theorem mayApply_radio (s : State) :
    mayApply s .radio = true ↔ s.stage.transmitting = false ∧ s.rad.state ≠ .transmitting := by
  simp [mayApply, applyPoint]

theorem mayApply_notices (s : State) {b : BlockName} (h : b ≠ .radio) :
    mayApply s b = applyPoint s.stage b := by simp [mayApply, h]

/-! ## Outputs that follow from the state (R99, R109, R117) -/

theorem modemPowered_iff (s : State) :
    modemPowered s = true ↔ s.rad.request = true ∧ s.bat.power = some .run := by
  simp [modemPowered, modemPermitted]

theorem loadConnected_iff (s : State) :
    loadConnected s = true ↔ s.bat.loadOn = true ∧ s.bat.power = some .run
      ∧ (∀ p, (s.seq.recs.get p).state = .rest ∨ (s.seq.recs.get p).state = .lockout)
      ∧ ∀ n ∈ s.mail.rest, n.departure = false := by
  have hr : ∀ st : SeqState, st.resting = true ↔ st = .rest ∨ st = .lockout := by
    intro st; cases st <;> simp [SeqState.resting]
  have hp : (∀ p ∈ allPoles, (s.seq.recs.get p).state.resting = true)
      ↔ ∀ p, (s.seq.recs.get p).state = .rest ∨ (s.seq.recs.get p).state = .lockout := by
    constructor
    · intro h p; exact (hr _).mp (h p (by cases p <;> simp [allPoles]))
    · intro h p _; exact (hr _).mpr (h p)
  simp only [loadConnected, Bool.and_eq_true, decide_eq_true_eq, List.all_eq_true, hp, and_assoc,
    Bool.not_eq_true', List.any_eq_false, Bool.not_eq_true]

/-- A STATUS record is taken at once, or waits in the mail. -/
theorem takeStatus_taken {s : State} (h : mayArrive .radio s = true) : takeStatus s = statusArrives s := by
  simp [takeStatus, h]

theorem takeStatus_waits {s : State} (h : mayArrive .radio s = false) :
    takeStatus s = withRecord .radio (.status (statusContent s)) s := by
  simp [takeStatus, h, raise_eq]

/-! ## The event queue and the radio (R136, R138, R139, R149) -/

theorem removeFirst_split {α : Type} {p : α → Bool} {l : List α} (h : l.any p = true) :
    ∃ before x after, l = before ++ x :: after ∧ p x = true ∧ (∀ y ∈ before, p y = false)
      ∧ removeFirst p l = before ++ after := by
  induction l with
  | nil => simp at h
  | cons y ys ih =>
    cases hy : p y with
    | true => exact ⟨[], y, ys, rfl, hy, by simp, by simp [removeFirst, hy]⟩
    | false =>
      obtain ⟨before, x, after, he, hx, hb, hr⟩ := ih (by simpa [hy] using h)
      refine ⟨y :: before, x, after, by simp [he], hx, ?_, by simp [removeFirst, hy, hr]⟩
      intro z hz
      rcases List.mem_cons.mp hz with rfl | hz
      · exact hy
      · exact hb z hz

theorem removeFirst_sublist {α : Type} (p : α → Bool) (l : List α) : (removeFirst p l).Sublist l := by
  induction l with
  | nil => exact .refl _
  | cons x xs ih =>
    unfold removeFirst
    split
    · exact List.sublist_cons_self x xs
    · exact ih.cons_cons x

theorem evict_sublist (l : List EventRecord) : (evict l).Sublist l := by
  unfold evict
  repeat' split
  all_goals exact removeFirst_sublist _ _

theorem judgeSend_busy {s : State} (h : s.rad.state ≠ .idle) : judgeSend s = s := by
  unfold judgeSend
  cases hs : s.rad.state <;> simp_all

theorem putSlot_fresh (command number : Byte) (code : ResultCode)
    (tags : Option (Bool × List TagLine)) (s : State) :
    putSlot command number code tags s = judgeSend (withSlot command number code tags s) := rfl

end Machine

end Sys2Proof
end

