-- ==== Sys2Proof/Tests/Slice0.lean ====
section
/-! SUPPORT. The model's own tests: ill-formed commands that WellFormed refuses, the spec's worked
arithmetic, single steps of each family, and states and operands that meet the premises of the
statements. Expected values come from the spec, whose place each test names. -/

namespace Sys2Proof.Tests

open Sys2Proof.Machine

/-! ## Well-formed commands -/

theorem test_wf_refuses_empty_pole_sets :
    (Instr.deadTimeExpiry Tri.empty).wellFormed = false
      ∧ (Instr.closeWaitExpiry Tri.empty).wellFormed = false
      ∧ (Instr.sequenceReset Tri.empty).wellFormed = false
      ∧ (Instr.deadTimeExpiry (Tri.single .c)).wellFormed = true := by decide

theorem test_wf_refuses_empty_bytes :
    (Instr.tokenFrame []).wellFormed = false ∧ (Instr.requestFrame []).wellFormed = false
      ∧ (Instr.cabinetFrameDropped []).wellFormed = false
      ∧ (Instr.cabinetFrameDropped [0xC3#8]).wellFormed = true := by decide

theorem test_wf_refuses_long_bodies :
    (Instr.txResult 1#8 (List.replicate 256 0#8) 0#16).wellFormed = false
      ∧ (Instr.modemReady 1#8 (List.replicate 256 0#8) 0#16).wellFormed = false
      ∧ (Instr.rxPacket 1#8 (List.replicate 256 0#8) 0#16).wellFormed = false
      ∧ (Instr.rxPacket 1#8 (List.replicate 255 0#8) 0#16).wellFormed = true := by
  decide +kernel

theorem test_wf_refuses_long_contents :
    (Instr.ack 1#8 (List.replicate 199 0#8)).wellFormed = false
      ∧ (Instr.settingsWrite 1#8 4#8 0#8 (List.replicate 239 0#8)).wellFormed = false
      ∧ (Instr.settingsWrite 1#8 4#8 0#8 (List.replicate 238 0#8)).wellFormed = true := by
  decide +kernel

/-! ## Wire forms (R179) -/

/-- The nine ASCII bytes "123456789". -/
def checkBytes : List Byte := [0x31#8, 0x32#8, 0x33#8, 0x34#8, 0x35#8, 0x36#8, 0x37#8, 0x38#8, 0x39#8]

theorem test_crc16_check_value : crc16 checkBytes = 0x29B1#16 := by decide +kernel

theorem test_crc8_check_value : crc8 checkBytes = 0xF4#8 := by decide +kernel

theorem test_fields_are_sent_low_byte_first : leBytes 2 0x1234 = [0x34#8, 0x12#8] := by decide

theorem test_no_word_spells_a_command : decodeTableWord 16 0xFFFF = none := rfl

/-! ## Worked arithmetic of section 2.7 -/

theorem test_curve_time_at_five_times_pickup :
    multipleOf 1000 200 = 80 ∧ curveTime 80 factoryCurve1 = 2400
      ∧ effectiveTime 2400 { defaultOp 1 .delayed with tm := 50 } = 1200
      ∧ 2000000 / effectiveTime 2400 { defaultOp 1 .delayed with tm := 50 } = 1666 := by decide

theorem test_curve_time_rounds_an_exact_half_up :
    multipleOf 655 200 = 52 ∧ curveTime 52 factoryCurve0 = 103
      ∧ effectiveTime 103 { defaultOp 0 .fast with tm := 150 } = 155
      ∧ curveTime 53 factoryCurve0 = 101 := by decide

theorem test_curve_time_at_the_limits :
    multipleOf 20000 200 = 640 ∧ curveTime 640 factoryCurve1 = 450 ∧ curveTime 640 factoryCurve0 = 30
      ∧ effectiveTime 40 { defaultOp 0 .fast with tm := 5 } = 10
      ∧ effectiveTime 30000 { defaultOp 1 .delayed with tm := 1000, adder := 2000 } = 302000
      ∧ curveTime 16 factoryCurve0 = 2000 := by decide

/-- R149: a packet of 96 bytes at 9,600 bit/s with a key overhead of 80 ms costs 160 ms. -/
theorem test_packet_cost : packetCost defaultRadio 80 = 160 := by decide +kernel

/-! ## A part at work -/

/-- The state that a command answers. -/
def after (c : Instr) (s : State) : State :=
  match exec c s with
  | .next t => t
  | .fault _ => s
  | .refused _ => s

/-- A part whose start has completed: protection at rest, the link and the radio up, power state RUN. -/
def live : State :=
  { State.reset with
    readsDone := true, elapsed := 100000,
    meas := { startMeasurement with
      settled := true, delivered := true, supply := true, pole := Tri.all .closed,
      lastDefinite := Tri.all (some .closed),
      inputs := { contactA := Tri.full, contactB := Tri.empty, leverTripped := false,
                  selectorRemote := false } },
    cfg := { defaultSettings with roster := [⟨11, false⟩, ⟨12, true⟩] },
    seq := { startSequence with created := true, view := Tri.all .closed },
    en := { startEnergy with bank := 9600, charger := .full, view := Tri.all .closed },
    bat := { startBattery with charger := .float, power := some .run, bankFull := true, atRest := true },
    rad := { startRadio with
      state := .idle, request := true, permitted := true, credit := 6000,
      refillTimer := some 100000, statusTimer := some 100000 },
    cap := { startCapture with segments := [recordingSegment 0, freeSegment] },
    cab := { startCabinet with started := true } }

/-- A measurement set with phase A at a magnitude. -/
def phaseSet (amps : Nat) : MeasSet :=
  { index := 1, time := 100000, mag := { a := amps, b := 0, c := 0, g := 0 }, sat := Quad.all false }

/-- The part with every record in one sequence state. -/
def inState (r : SeqRecord) (s : State) : State :=
  { s with seq := { s.seq with recs := Tri.all r } }

/-- The part with one stroke message waiting for the sequence controller. -/
def withStroke (m : StrokeMsg) (s : State) : State := { s with mail := { s.mail with strokes := [m] } }

/-- The part with one message waiting for the actuator and energy unit. -/
def withRequest (m : EnergyMsg) (s : State) : State := { s with mail := { s.mail with requests := [m] } }

/-- A waiting request for pole A. -/
def waiting (k : StrokeKind) : StrokeRequest :=
  { kind := k, poles := Tri.single .a, origin := .protection,
    joined := (if k = .trip then Tri.single .a else Tri.empty), arrival := 98000, attempt := 1,
    alarm := false }

/-- A stroke in flight for pole A. -/
def flying (k : StrokeKind) (attempt : Nat) : Stroke :=
  { kind := k, poles := Tri.single .a, drive := Tri.single .a, origin := .protection,
    joined := (if k = .trip then Tri.single .a else Tri.empty), attempt := attempt, bankAtGrant := 9600, cut := false, pulse := true, deadline := 100000 }

/-- A settled tag. -/
def settled (k : TagKind) (crew : Option Nat) : TagEntry :=
  { kind := k, crew := crew, source := .cabinet, placedAt := ⟨0, 0, false⟩, retained := true,
    reported := true, removal := none, mark := .none, replyTo := .nobody }

/-- The part with a tag table. -/
def withTags (t : List TagEntry) (s : State) : State := { s with tags := { s.tags with table := t } }

/-- A record waiting for the radio and the cabinet. -/
def record (number : Nat) : EventRecord :=
  { number := number, cls := .routine, body := .settingsDefaulted .roster, stamp := ⟨0, 0, false⟩,
    radio := .pending, attempts := 0, nextTry := 0, inSend := false, cabinet := .pending,
    renewed := false }

/-- The part with records in its event queue. -/
def withRecords (l : List EventRecord) (s : State) : State :=
  { s with eq := { s.eq with records := l, next := 500 } }

theorem test_live_is_ready : Ready live ∧ Hearing live := by decide

/-! ## Single steps -/

/-- R1: 20,001 A is held and marked. -/
theorem test_set_holds_and_marks :
    (after (.measurementSet 20000 20001 0 0) live).meas.latest.mag = { a := 20000, b := 20000, c := 0, g := 0 }
      ∧ (after (.measurementSet 20000 20001 0 0) live).meas.latest.sat
        = { a := false, b := true, c := false, g := false } := by decide

/-- R4: a half rounds toward the more positive value. -/
theorem test_average_rounds_half_up : average [1, 2] = 2 ∧ average [-1, -2] = -1 := by decide

/-- R12: the last second of the count goes to 0. -/
theorem test_tick_wraps :
    (after .timeBaseTick { live with clock := ⟨4294967295, 999, true⟩ }).clock = ⟨0, 0, true⟩ := by decide

/-- R13: 999 ms is a time, 1,000 ms is refused and changes nothing. -/
theorem test_time_set_at_the_boundary :
    (after (.timeSet 1#8 5#32 999#16) live).clock = ⟨5, 999, true⟩
      ∧ (after (.timeSet 1#8 5#32 1000#16) live).clock = live.clock := by decide

/-- R11: 999,999 is a count, 1,000,000 is refused. -/
theorem test_counter_set_at_the_boundary :
    (after (.counterSet 1#8 2#8 999999#32) live).meas.counters.c = 999999
      ∧ (after (.counterSet 1#8 2#8 1000000#32) live).meas.counters.c = 0 := by decide

/-- R7: an input that has stood at its other level for 9 ms has not changed. -/
theorem test_short_excursion : after (.debouncedInputChange (.contactB .a) true 9) live = live := rfl

/-- R7, R8, R10: contact A opens, and 10 ms of contact B closed make the pole OPEN: one opening. -/
theorem test_opening_counts :
    (after (.debouncedInputChange (.contactB .a) true 10)
      { live with meas := { live.meas with
          inputs := { live.meas.inputs with contactA := Tri.empty } } }).meas.counters.a = 1 := by decide

/-- R32: an armed hot-line part operates at its pickup of 200 A. -/
theorem test_hot_line_operates :
    (after .overcurrentEvaluation { live with
      oc := { startOvercurrent with armed := true },
      mail := { noMail with ocSets := [phaseSet 200] } }).oc.hot.a = .operated := by decide

/-- R25: 199 A is below a pickup of 200 A. -/
theorem test_phase_element_picks_up_at_its_pickup :
    (after .overcurrentEvaluation { live with mail := { noMail with ocSets := [phaseSet 199] } }).oc.phase.a.state
        = .idle
      ∧ (after .overcurrentEvaluation { live with mail := { noMail with ocSets := [phaseSet 200] } }).oc.phase.a.state
        = .pickedUp := by decide

/-- R46: the dead time ends in CLOSE_WAIT with a wait of 5,000 ms. -/
theorem test_dead_time_ends_in_close_wait :
    (after (.deadTimeExpiry Tri.full) (inState { startRecord with
      state := .deadTime, shot := 1, timer := some ⟨.dead, 100000⟩ } live)).seq.recs.b.timer
        = some ⟨.closeWait, 105000⟩ := by decide

/-- R55: a commanded close of records in REST is refused by their state; LOCKOUT goes to CLOSE_WAIT. -/
theorem test_commanded_close :
    (after (.poleClose 1#8 7#8) live).seq.blockedSeen = true
      ∧ (after (.poleClose 1#8 7#8) (inState { startRecord with
          state := .lockout, cause := some .command } live)).seq.recs.a.state = .closeWait := by decide

/-- R57: the lever locks out every record. -/
theorem test_lever_locks_out :
    (after .sequenceLeverChange { live with mail := { noMail with seqLever := [true] } }).seq.recs.c.cause
      = some .lever := by decide

/-- R67: a trip for pole A is granted at the level for one pole, and waits 1 below it. -/
theorem test_trip_is_granted_at_its_level :
    (after .tripRequestArrival { withRequest (.trip (Tri.single .a) .protection) live with
        en := { live.en with bank := 4800 } }).en.stroke.isSome = true
      ∧ (after .tripRequestArrival { withRequest (.trip (Tri.single .a) .protection) live with
        en := { live.en with bank := 4799 } }).en.stroke = none := by decide

/-- R76: a DO_NOT_CLOSE tag in force refuses a waiting close. -/
theorem test_tag_refuses_a_waiting_close :
    (after .energyTagSignal { live with
      en := { live.en with queue := [waiting .close] },
      mail := { noMail with enTags := [.inForce .doNotClose] } }).mail.strokes
        = [.refusal (Tri.single .a) .tag] := by decide

/-- R83: the ninth tag finds the table full. -/
theorem test_ninth_tag_is_refused :
    (after (.tagPlace 1#8 0#8 11#16)
      (withTags (List.replicate 8 (settled .doNotClose (some 12))) live)).tags.table.length = 8
      ∧ (after (.tagPlace 1#8 0#8 11#16)
        (withTags (List.replicate 7 (settled .doNotClose (some 12))) live)).tags.table.length = 8 := by
  decide

/-- R94, section 12.5: the token frame of crew 11, PLACE_HOT_LINE, number 3. -/
theorem test_token_frame_places_a_tag :
    ((after (.tokenFrame (0x5A#8 :: [11#8, 0#8, 0#8, 3#8] ++ [crc8 [11#8, 0#8, 0#8, 3#8]])) live).tags.table.map
      fun e => (e.kind, e.crew)) = [(.hotLine, some 11)] := by decide +kernel

/-- R118: the crew-visit window lasts 15 minutes. -/
theorem test_crew_visit_window :
    (after (.query 11#16 1#8) live).bat.window = some 1000000 := by decide

/-- R127, R90: a record without its marker is invalid; SYSTEM_HOLD with source INTERNAL is placed. -/
theorem test_system_hold_is_placed :
    blankImage.valid = false
      ∧ (placeSystemHold live).tags.table.map (fun e => (e.kind, e.source)) = [(.systemHold, .internal)]
      ∧ (placeSystemHold (withTags (List.replicate 8 (settled .doNotClose (some 12))) live)).tags.holdPending
        = true := by decide

/-- R110, R111: 25.00 V falling to 24.00 V at 10 A is 100 mOhm: PASS; 22.49 V is FAIL. -/
theorem test_battery_verdict :
    testVerdict defaultBattery 2500 2400 1000 = .pass ∧ resistance 2500 2400 1000 = 100
      ∧ testVerdict defaultBattery 2500 2249 1000 = .fail
      ∧ testVerdict defaultBattery 2500 2400 49 = .invalid := by decide

/-- R139: a full queue gives up its oldest ROUTINE record. -/
theorem test_full_queue_gives_up_one :
    evict [{ record 1 with cls := .urgent }, record 2, record 3]
      = [{ record 1 with cls := .urgent }, record 3] := by decide

/-- R153: the acknowledgement wait doubles with each attempt, up to sixteen times. -/
theorem test_ack_wait_doubles :
    (EventRecord.doneAt 100000 10 { record 1 with attempts := 1, inSend := true }).nextTry = 120000
      ∧ (EventRecord.doneAt 100000 10 { record 1 with attempts := 9, inSend := true }).nextTry = 260000 := by
  decide

/-- R163: a trigger puts the recording segment in POST with the next id. -/
theorem test_trigger_makes_a_capture :
    (triggerCapture 1 (after .captureSetWrite { live with
      mail := { noMail with capSets := [phaseSet 300] } })).1 = .id 0 := by decide

/-- R169, R170: the bytes of a STATUS_CLEAR frame, and the same with a CRC that does not match. -/
theorem test_request_frame_is_read :
    (after (.requestFrame (frameBytes 2#8 9#8 [])) { live with
        seq := { live.seq with blockedSeen := true } }).seq.blockedSeen = false
      ∧ (after (.cabinetFrameDropped [0xC3#8, 0#8, 2#8, 9#8, 0#8, 0#8]) live).cab.flags.linkError = true := by
  decide +kernel

/-- R175: SETTINGS_WRITE of an empty roster is staged and, applying always, goes into force. -/
theorem test_roster_is_written :
    (after (.settingsWrite 1#8 4#8 0#8 (BlockContent.roster []).bytes) live).cfg.roster = [] := by decide

/-- R50: the grant of a close for pole A alone, in GANGED mode, takes all three records to CLOSING. -/
theorem test_close_grant_takes_all_three :
    (after .grantNotice (withStroke (.grant { kind := .close, poles := Tri.single .a, attempt := 1, wait := 0 })
      (inState { startRecord with state := .closeWait, timer := some ⟨.closeWait, 105000⟩ } live))).seq.recs.c.state
        = .closing := by decide

/-- R45, R51: in SINGLE mode a failed second attempt locks out the missed pole's record FAIL_TO_OPEN, and the
record of the pole outside the request THREE_POLE. -/
theorem test_failed_retry_in_single_mode :
    (let s := withStroke
        (.result { kind := .trip, poles := ⟨true, true, false⟩, joined := ⟨true, true, false⟩, attempt := 2,
                   reached := Tri.single .a, missed := Tri.single .b, cut := false, final := true })
        (inState { startRecord with state := .tripping } { live with
          cfg := { live.cfg with prot := { live.cfg.prot with tripMode := .single } } })
     let t := after .strokeResult s
     t.seq.recs.b.cause = some .failToOpen ∧ t.seq.recs.c.cause = some .threePole) := by decide

/-- R127, R144: a STATUS record waits behind a record of the start-up procedure. -/
theorem test_status_waits_for_the_start :
    (after (.poll 1#8) { live with mail := { noMail with raised := [(.startUp, .retainedLost .crc)] } }).eq.records
      = [] := by decide

/-- R99: in FLOAT the drive holds the float target up to the bulk current. -/
theorem test_charger_drive :
    chargerDrive { live with bat := { live.bat with targets := some { absorb := 2860, float := 2700 } } }
      = .voltageHeld 2700 defaultBattery.bulk := by decide

/-- R109: the load is not connected with a record in TRIPPING. -/
theorem test_load_leaves_with_a_departure :
    loadConnected { live with bat := { live.bat with loadOn := true } } = true
      ∧ loadConnected (inState { startRecord with state := .tripping }
        { live with bat := { live.bat with loadOn := true } }) = false := by decide

/-- R170, R180: a SETTINGS_WRITE of one byte is BAD_INDEX for a name out of range and BAD_LENGTH else. -/
theorem test_one_byte_settings_write :
    ((after (.requestFrame (frameBytes 7#8 9#8 [6#8])) live).cab.replies.map CabinetReply.code)
        = [.badIndex]
      ∧ ((after (.requestFrame (frameBytes 7#8 9#8 [5#8])) live).cab.replies.map CabinetReply.code)
        = [.badLength] := by decide +kernel

/-- R11, section 12.1: the reply of COUNTER_READ, three counters and the threshold of 4 bytes each. -/
theorem test_counter_reply :
    (CabinetReply.frame { kind := 18#8, tag := 9#8, code := .ok,
                          content := .counters { a := 1, b := 2, c := 258 } 10000 }).take 21
      = [0xC3#8, 17#8, 0x92#8, 9#8, 0#8, 1#8, 0#8, 0#8, 0#8, 2#8, 0#8, 0#8, 0#8, 2#8, 1#8, 0#8, 0#8,
         0x10#8, 0x27#8, 0#8, 0#8] := by decide +kernel

/-! ## States and operands that meet the premises of the statements, clause by clause -/

theorem test_premises_StepTakesFrontCommand : State.reset.pending = [] := rfl

theorem test_premises_EveryCommandCompletes :
    ({ live with power := .dark }).power ≠ .running ∧ (Instr.poll 1#8).startsOrStops = false := by decide

theorem test_premises_StartsAndStopsKeepTheStores :
    live.power = .running ∧ ({ live with power := .dark }).power = .dark
      ∧ ({ live with power := .resetHeld }).power = .resetHeld := by decide

theorem test_premises_SetsAndSamplesAreTaken :
    live.power = .running ∧ live.meas.nextSet ≤ live.elapsed ∧ live.meas.nextSample ≤ live.elapsed
      ∧ ({ live.meas with samples := 9 }).samples < 10 ∧ startEnergy.charger = .held
      ∧ live.en.charger = .full ∧ (List.replicate 9 (0 : Int)).length = 9 := by decide

theorem test_premises_AveragesAreDelivered :
    ([-45] : List Int) ≠ [] ∧ ({ live.meas with samples := 10 }).samples = 10 ∧ live.bat.power ≠ none
      ∧ startBattery.power = none := by decide

theorem test_premises_FieldInputsAndPoleStatesChange :
    live.meas.settled = true ∧ inputLevel live.meas.inputs (.contactA .a) ≠ false
      ∧ inputLevel live.meas.inputs .lever = false ∧ inputLevel live.meas.inputs .selector = false
      ∧ (let s := { live with meas := { live.meas with
            inputs := { live.meas.inputs with contactA := Tri.empty } } }
        inputLevel s.meas.inputs (.contactB .c) ≠ true
          ∧ (setInput s.meas.inputs (.contactB .c) true).contactA.get .c = false
          ∧ (setInput s.meas.inputs (.contactB .c) true).contactB.get .c = true
          ∧ s.meas.pole.get .c ≠ .opened ∧ s.meas.lastDefinite.get .c = some .closed)
      ∧ (let s := { live with meas := { live.meas with
            pole := Tri.all .opened, inputs := { live.meas.inputs with contactA := Tri.empty } } }
         let inputs := setInput s.meas.inputs (.contactA .c) true
         inputLevel s.meas.inputs (.contactA .c) ≠ true ∧ inputs.contactA.get .c = true
          ∧ inputs.contactB.get .c = false ∧ s.meas.pole.get .c ≠ .closed ∧ live.meas.pole.get .c = .closed)
      ∧ (let s := { live with meas := { live.meas with agree := ⟨some 100000, some 100001, none⟩ } }
         s.meas.agree.get .a = some 100000 ∧ 100000 ≤ s.elapsed ∧ s.meas.agree.get .b = some 100001
          ∧ s.elapsed < 100001)
      ∧ 10 ≤ ({ State.reset with elapsed := 10 }).elapsed ∧ State.reset.meas.settled = false := by decide

theorem test_premises_TimeBaseCountsAndIsSet :
    ClockSound live ∧ Ready live ∧ Hearing live ∧ ¬ 999 < (999#16).toNat % 1024
      ∧ 999 < (1000#16).toNat % 1024 := by decide

theorem test_premises_CountersAndMarksAreSet :
    Ready live ∧ 3 ≤ (3#8).toNat ∧ (2#8).toNat = poleCode .c ∧ (999999#32).toNat ≤ 999999
      ∧ 999999 < (1000000#32).toNat ∧ live.en.view.get .c ≠ .unknown ∧ live.en.failed.get .c = false
      ∧ ({ live.en with failed := Tri.full }).failed.get .c = true
      ∧ startEnergy.view.get .c = .unknown := by decide

theorem test_premises_OperateTimeFollowsTheCurve :
    CurveRising factoryCurve0 ∧ CurveFalling factoryCurve0
      ∧ factoryCurve0 = [] ++ ⟨16, 2000⟩ :: ⟨24, 400⟩ :: factoryCurve0.drop 2
      ∧ factoryCurve0 = factoryCurve0.take 7 ++ [⟨320, 30⟩] ∧ 20000 < 20001
      ∧ idleElement.state = .idle ∧ 199 < 200 ∧ 16 ≤ (phaseTiming defaultSettings 1 200).m16 := by decide

/-- An element in one state, half way to its operation. -/
def element (st : ElementState) : Element := { state := st, progress := 500000, instCount := 0, sets := 3 }

theorem test_premises_ElementTimesASet :
    idleElement.state = .idle ∧ 200 ≤ 200 ∧ (element .pickedUp).state = .pickedUp ∧ 200 * 95 / 100 ≤ 190
      ∧ 189 < 200 * 95 / 100 ∧ (element .operated).state = .operated := by decide

theorem test_premises_ResetModeDrainsProgress :
    (element .pickedUp).state = .pickedUp ∧ 200 * 95 / 100 ≤ 190 ∧ 190 < 200
      ∧ (phaseTiming defaultSettings 1 190).m16 = multipleOf 190 200
      ∧ 32 ≤ (phaseTiming defaultSettings 1 190).op.instMult ∧ (element .pickedUp).progress < 1000000
      ∧ defaultProtection.resetMode = .instant
      ∧ ({ defaultProtection with resetMode := .decay }).resetMode = .decay := by decide

theorem test_premises_OvercurrentEvaluatesASet :
    (let s := { live with mail := { noMail with ocSets := [phaseSet 200] } }
     s.mail.ocSets = phaseSet 200 :: [] ∧ s.seq.created = true
      ∧ (s.seq.recs.get .a).state.holdsClosed = true)
      ∧ (inState { startRecord with state := .deadTime } live).seq.recs.a.state.holdsClosed = false
      ∧ startSequence.created = false := by decide

theorem test_premises_HotLineElementOperates :
    0 < live.cfg.prot.hotPickup ∧ live.seq.created = true
      ∧ ({ startOvercurrent with armed := true }).armed = true ∧ startOvercurrent.hot.get .a ≠ .operated
      ∧ live.cfg.prot.hotPickup ≤ (phaseSet 200).mag.get .a
      ∧ startOvercurrent.hot.get .a = .idle ∧ (phaseSet 1).mag.get .a < live.cfg.prot.hotPickup
      ∧ ({ noMail with arming := [true] }).arming = true :: [] := by decide

/-- An evaluation result of phase A. -/
def result (entries : List Report) : EvalResult :=
  { set := phaseSet 1000, entries := entries, leading := leadingOperation entries }

theorem test_premises_OperateMovesToTripping :
    (let r := result [.operate (.phase .a) (Tri.single .a) 1 .phaseToc Tri.full]
     r.leading = some (.phaseToc, 1) ∧ (r.entries.foldl (fun u x => u.union x.tripSet) Tri.empty).get .c = true)
      ∧ (live.seq.recs.get .c).state.holdsClosed = true := by decide

theorem test_premises_PickupDropOutAndCoordination :
    (let s := inState { startRecord with
        state := .timing, origin := some .rest, longest := 3, shot := 0 } live
     (result [.dropOut (.phase .a) (Tri.single .a) false 3]).leading = none
      ∧ (widen s (Tri.single .a)).get .b = true ∧ (s.seq.recs.get .b).state = .timing
      ∧ ((s.seq.recs.get .b).up.drop (.phase .a)).isEmpty = true
      ∧ 3 ≤ max (s.seq.recs.get .b).longest 3 ∧ (s.seq.recs.get .b).shot + 1 < (s.seq.recs.get .b).lockOps
      ∧ (opSettings s.cfg.prot 1).speed = .fast ∧ (opSettings s.cfg.prot 2).speed = .fast
      ∧ s.cfg.prot.coordination = false ∧ ({ startRecord with longest := 1 }).longest < 3
      ∧ ({ s.cfg.prot with coordination := true }).coordination = true)
      ∧ (result [.pickup (.phase .a) (Tri.single .a) 1]).leading = none
      ∧ (live.seq.recs.get .a).state = .rest := by decide

/-- The part with one evaluation result waiting for the sequence controller. -/
def withResult (r : EvalResult) (s : State) : State := { s with mail := { s.mail with results := [r] } }

/-- R39, R163: a pickup takes the records to TIMING with the answer of the trigger, here the first capture;
the set has not reached the sequence controller, so the peaks start at 0 (R40). -/
theorem test_result_triggers_a_capture :
    let s := withResult (result [.pickup (.phase .a) (Tri.single .a) 1]) live
    let t := after .evaluationResult s
    (s.seq.recs.get .a).state = .rest ∧ (widen s (Tri.single .a)).get .b = true
      ∧ ¬ (phaseSet 1000).index ≤ s.seq.lastSet ∧ t.seq.recs.b.state = .timing
      ∧ t.seq.recs.b.capture = some (.id 0) ∧ t.seq.recs.b.peaks.a = 0 := by decide

/-- The outcome of a stroke of pole A. -/
def outcome (k : StrokeKind) (attempt : Nat) (reached missed : PoleSet) (final : Bool) : StrokeOutcome :=
  { kind := k, poles := Tri.single .a, joined := (if k = .trip then Tri.single .a else Tri.empty),
    attempt := attempt, reached := reached, missed := missed, cut := false, final := final }

theorem test_premises_PeaksAndGrantsAreTaken :
    ({ noMail with seqSets := [phaseSet 1] }).seqSets = phaseSet 1 :: []
      ∧ (withStroke (.grant { kind := .close, poles := Tri.full, attempt := 1, wait := 0 }) live).mail.strokes
        = .grant { kind := .close, poles := Tri.full, attempt := 1, wait := 0 } :: []
      ∧ (inState { startRecord with state := .closeWait } live).seq.recs.a.state = .closeWait
      ∧ (inState { startRecord with state := .lockout, cause := some .noEnergy } live).seq.recs.a.cause
        = some .noEnergy
      ∧ live.cfg.prot.tripMode = .ganged := by decide

theorem test_premises_SuccessfulTripIsTaken :
    (let r := outcome .trip 1 (Tri.single .a) Tri.empty true
     let h : TripInHand := { op := 1, name := .phaseToc, time := 5, wait := none }
     let tripping := { startRecord with state := .tripping, trip := some h }
     let s := withStroke (.result r) (inState tripping live)
     s.power = .running ∧ s.mail.strokes = .result r :: [] ∧ r.kind = .trip ∧ r.final = true
      ∧ r.missed = Tri.empty ∧ r.reached.isEmpty = false ∧ r.joined.isEmpty = false
      ∧ (widen s r.reached).get .b = true ∧ (s.seq.recs.get .b).state = .tripping
      ∧ (s.seq.recs.get .b).note = none ∧ closingBlock s.seq.summary = false
      ∧ (s.seq.recs.get .b).shot + 1 < (s.seq.recs.get .b).lockOps
      ∧ (∀ p ∈ allPoles, (s.seq.recs.get p).trip = some h)
      ∧ ({ tripping with pickupTime := some 3, capture := some (.id 0) }).pickupTime = some 3
      ∧ (inState { tripping with shot := 3 } live).seq.recs.a.lockOps ≤ 3 + 1
      ∧ ({ tripping with note := some .externalOpen }).note ≠ none)
      ∧ (outcome .trip 2 (Tri.single .a) Tri.empty true).attempt ≠ 1 := by decide

theorem test_premises_FailedTripIsTaken :
    (let r := outcome .trip 1 Tri.empty (Tri.single .a) false
     let s := { withStroke (.result r) live with
        en := { live.en with queue := [{ waiting .trip with attempt := 2 }] } }
     s.power = .running ∧ s.mail.strokes = .result r :: [] ∧ r.kind = .trip ∧ r.missed.isEmpty = false
      ∧ r.final = false
      ∧ (r.missed.inter (retryComing { s with mail := { s.mail with strokes := [] } })).isEmpty = false)
      ∧ (outcome .trip 2 Tri.empty (Tri.single .a) true).final = true
      ∧ live.cfg.prot.tripMode = .ganged ∧ lockedPoles live ≠ Tri.full
      ∧ ({ live.cfg.prot with tripMode := .single }).tripMode = .single := by decide

theorem test_premises_CloseResultsAndRefusalsAreTaken :
    (let s := inState { startRecord with state := .closing, closeOrigin := some .protection } live
     (s.seq.recs.get .a).state = .closing ∧ (s.seq.recs.get .a).tripAfter = none)
      ∧ (outcome .close 1 (Tri.single .a) Tri.empty true).missed = Tri.empty
      ∧ (outcome .close 1 Tri.empty (Tri.single .a) true).missed.isEmpty = false
      ∧ (withStroke (.refusal (Tri.single .a) .tag) live).mail.strokes = .refusal (Tri.single .a) .tag :: []
      ∧ (inState { startRecord with state := .closeWait } live).seq.recs.a.state = .closeWait
      ∧ (let marked := fun (st : SeqState) (m : TripAfter) =>
            (inState { startRecord with state := st, tripAfter := some m } live).seq.recs.a
         (marked .closing (.command .radio)).tripAfter = some (.command .radio)
          ∧ (marked .closing (.command .radio)).state ≠ .lockout
          ∧ (marked .lockout .threePole).tripAfter = some .threePole
          ∧ (marked .lockout .threePole).state = .lockout ∧ (shownClosed live).get .a = true) := by decide

theorem test_premises_WaitTimersOfTheSequenceEnd :
    (Tri.single .a).isEmpty = false
      ∧ ({ startRecord with timer := some ⟨.dead, 100000⟩ } : SeqRecord).timerDue .dead live.elapsed = true
      ∧ ({ startRecord with timer := some ⟨.closeWait, 100000⟩ } : SeqRecord).timerDue .closeWait live.elapsed
        = true
      ∧ ({ startRecord with timer := some ⟨.reclaim, 100001⟩ } : SeqRecord).timerDue .reclaim live.elapsed
        = false := by decide

theorem test_premises_TagSignalsReachTheSequence :
    ({ noMail with seqTags := [.removed .hotLine 0] }).seqTags = .removed .hotLine 0 :: []
      ∧ ({ noMail with seqTags := [.holdCleared] }).seqTags = .holdCleared :: []
      ∧ ({ noMail with seqTags := [.holdSet] }).seqTags = .holdSet :: []
      ∧ ({ startRecord with state := .closeWait, closeOrigin := some .commandCabinet }).closeOrigin
        = some .commandCabinet
      ∧ ({ noMail with seqTags := [.inForce .remoteBlock] }).seqTags = .inForce .remoteBlock :: []
      ∧ (inState { startRecord with state := .deadTime } live).seq.recs.a.state = .deadTime := by decide

theorem test_premises_CommandedTripIsTaken :
    Ready live ∧ Hearing live ∧ (0#8).toNat = 0 ∧ 8 ≤ (8#8).toNat ∧ 0 < (7#8).toNat ∧ (7#8).toNat < 8
      ∧ (live.seq.recs.get .a).state.holdsClosed = true
      ∧ (inState { startRecord with state := .closing } live).seq.recs.a.state = .closing
      ∧ (let s := inState { startRecord with state := .lockout } live
         ((Tri.full.inter (lockedPoles s)).inter (shownClosed s)).isEmpty = false)
      ∧ (let s := { live with
            cfg := { live.cfg with prot := { live.cfg.prot with tripMode := .single } },
            seq := { live.seq with
              recs := { live.seq.recs with b := { startRecord with state := .deadTime } } } }
         let t := after (.poleTrip 1#8 3#8) s
         s.cfg.prot.tripMode = .single ∧ (s.seq.recs.get .b).state = .deadTime
          ∧ (s.seq.recs.get .a).state.holdsClosed = true
          ∧ .trip (Tri.single .a) .commandCabinet ∈ t.mail.requests
          ∧ (∀ p ∈ allPoles, (t.seq.recs.get p).state = .lockout)) := by decide

theorem test_premises_CommandedCloseIsChecked :
    live.meas.inputs.selectorRemote = false ∧ live.meas.inputs.leverTripped = false
      ∧ live.seq.summary.hold = false ∧ live.seq.summary.kinds = noKinds ∧ live.bat.power ≠ some .holdover
      ∧ live.en.failed.get .a = false
      ∧ (inState { startRecord with state := .lockout, cause := some .command } live).seq.recs.a.state
        = .lockout := by decide

theorem test_premises_LeverAndContactsMoveRecords :
    live.seq.created = true ∧ live.seq.view.get .a ≠ .opened ∧ (inFlight .trip live).get .a = false
      ∧ (live.seq.recs.get .a).state.holdsClosed = true ∧ (inFlight .close live).get .a = false
      ∧ ({ noMail with seqPoles := [(.a, .opened)] }).seqPoles = (.a, .opened) :: []
      ∧ live.cfg.prot.tripMode = .ganged ∧ (shownClosed live).isEmpty = false
      ∧ (live.seq.recs.get .b).state ≠ .lockout
      ∧ (let s := { inState { startRecord with state := .tripping } live with
            en := { live.en with queue := [waiting .trip] } }
         (inFlight .trip s).get .a = false ∧ (s.seq.recs.get .a).state = .tripping
          ∧ s.en.queue = waiting .trip :: [] ∧ (waiting .trip).kind = .trip
          ∧ (waiting .trip).poles.get .a = true) := by decide

/-- The part in SINGLE mode. -/
def single (s : State) : State :=
  { s with cfg := { s.cfg with prot := { s.cfg.prot with tripMode := .single } } }

/-- Pole A's close wait ends, with pole B in RECLAIM and pole C in CLOSING. -/
def spreading : State :=
  single { live with
    seq := { live.seq with
      recs := { a := { startRecord with state := .closeWait, timer := some ⟨.closeWait, 100000⟩ },
                b := { startRecord with state := .reclaim },
                c := { startRecord with state := .closing } } } }

theorem test_spreading_runs :
    exec (.closeWaitExpiry (Tri.single .a)) spreading
      = .next (after (.closeWaitExpiry (Tri.single .a)) spreading) := rfl

/-- R37, R51: pole A is locked out NO_ENERGY, and the others with it. -/
theorem test_premises_LockoutsSpreadAndRestIsReported :
    let ps := Tri.single Pole.a
    let t := after (.closeWaitExpiry ps) spreading
    Instr.closeWaitExpiry ps ∈ sequenceCommands 0#8 0#8 ps
      ∧ spreading.cfg.prot.tripMode = .single ∧ spreading.seq.created = true
      ∧ (enteredLockout spreading t).get .a = true ∧ t.seq.recs.a.cause = some .noEnergy
      ∧ t.seq.recs.b.cause = some .threePole ∧ spreading.seq.recs.b.state.holdsClosed = true
      ∧ spreading.seq.recs.c.state = .closing ∧ t.seq.recs.c.tripAfter = some .threePole
      ∧ .withdraw .close (Tri.single .a) ∈ t.mail.requests
      ∧ .trip (Tri.single .b) .threePole ∈ t.mail.requests
      ∧ (.sequence, .lockout (Tri.single .a) .noEnergy 0 none none) ∈ t.mail.raised := by decide

/-- R38: a pickup at rest hands "not at rest" with the departure. -/
theorem test_premises_rest_is_reported :
    let s := withResult (result [.pickup (.phase .a) (Tri.single .a) 1])
      { live with seq := { live.seq with saidAtRest := true } }
    let t := after .evaluationResult s
    s.seq.saidAtRest = protectionAtRest s.seq ∧ t.mail.stageRest = [false]
      ∧ t.mail.rest = [{ departure := true, change := some false }] := by decide

theorem test_premises_TripRequestsAreQueued :
    (let s := { withRequest (.trip (Tri.single .b) .protection) live with
        en := { live.en with queue := [waiting .trip, waiting .close] } }
     s.en.queue.length < 8 ∧ s.en.queue = waitingTripRequests s ++ s.en.queue.filter StrokeRequest.isClose)
      ∧ (let q := List.replicate 7 (waiting .close) ++ [waiting .close]
         q.length = 8 ∧ ∀ r ∈ q, r.poles.meets (Tri.single .b) = false) := by decide

theorem test_premises_CloseRequestsAndWithdrawals :
    live.tags.holdPending = false ∧ live.tags.table = [] ∧ live.en.queue = []
      ∧ live.en.failed.meets Tri.full = false ∧ 8 ≤ (List.replicate 8 (waiting .trip)).length
      ∧ ∀ r ∈ [waiting .close], r.poles.isEmpty = false := by decide

/-- A withdrawal meets the second attempt of pole A, whose request had opened pole B. -/
def withdrawing : State :=
  let h : TripInHand := { op := 1, name := .phaseToc, time := 5, wait := none }
  withRequest (.withdraw .trip (Tri.single .a))
    { inState { startRecord with state := .tripping, trip := some h } live with
      seq := { live.seq with
        recs := Tri.all { startRecord with state := .tripping, trip := some h },
        retries := [{ joined := ⟨true, true, false⟩, poles := ⟨true, true, false⟩, opened := Tri.single .b,
                      missed := Tri.single .a }] },
      en := { live.en with queue := [{ waiting .trip with attempt := 2 }] } }

/-- R44, R66: the request ends and is judged by pole B, which opened. -/
theorem test_premises_withdrawn_retries :
    (∀ m ∈ withdrawing.mail.strokes, (retryResult m).meets (Tri.single .a) = false)
      ∧ (∀ g ∈ withdrawing.seq.retries, g.joined.isEmpty = false ∧ g.missed.meets (Tri.single .a) = true
        ∧ g.missed.within (Tri.single .a) = true)
      ∧ (after .requestWithdrawal withdrawing).seq.retries = []
      ∧ ((after .requestWithdrawal withdrawing).mail.raised.map fun e => e.2.kind) = [0]
      ∧ (after .requestWithdrawal withdrawing).seq.recs.a.trip = none := by decide

/-- The commanded trips of poles A and B, and the protection trip of pole B, in one request (R64): pole A's
commanded request is the oldest, pole B's is that of an OPERATE, and a command names both. -/
def mergedByCommand : State :=
  let h : TripInHand := { op := 1, name := .phaseToc, time := 5, wait := none }
  after .tripRequestArrival (withRequest (.trip ⟨true, true, false⟩ .commandCabinet)
    { inState { startRecord with state := .lockout, trip := some h } live with
      en := { live.en with
        bank := 0,
        queue := [{ waiting .trip with origin := .commandCabinet, joined := Tri.empty },
          { waiting .trip with poles := Tri.single .b, joined := Tri.single .b }] } })

/-- R44, R64: the merged request keeps the command's origin and the record that has joined, and its result
raises a TRIP event for pole B and clears its trip in hand. -/
theorem test_merged_request_is_judged :
    mergedByCommand.en.queue = [{ waiting .trip with
        poles := ⟨true, true, false⟩, origin := .commandCabinet, joined := Tri.single .b }]
      ∧ (let t := after .strokeResult (withStroke (.result
            { outcome .trip 1 ⟨true, true, false⟩ Tri.empty true with
              poles := ⟨true, true, false⟩, joined := Tri.single .b }) mergedByCommand)
         (t.mail.raised.map fun e => e.2.kind) = [0] ∧ t.seq.recs.b.trip = none) := by decide

/-- R66: a withdrawal that finds no pole waiting has no effect. -/
theorem test_withdrawal_of_nothing :
    exec .requestWithdrawal (withRequest (.withdraw .close Tri.full) withdrawing)
      = .next { withdrawing with mail := noMail } := rfl

theorem test_premises_ArbiterJudgesTheHead :
    live.en.stroke = none ∧ live.en.settle = none
      ∧ ({ live.en with queue := [waiting .trip] }).queue = waiting .trip :: []
      ∧ live.cfg.prot.trip1 ≤ live.en.bank ∧ ({ live.en with settle := some 100000 }).settle ≠ none
      ∧ (Tri.of fun p => (waiting .trip).poles.get p && decide (live.en.view.get p ≠ .opened)).isEmpty = false
      ∧ (Tri.of fun p => (waiting .close).poles.get p && decide (live.en.view.get p ≠ .closed)).isEmpty
        = true := by decide

theorem test_premises_StrokesEnd :
    ({ live.en with stroke := some (flying .trip 1) }).stroke = some (flying .trip 1)
      ∧ (flying .trip 1).poles.get .a = true ∧ (flying .trip 1).deadline ≤ live.elapsed
      ∧ (flying .trip 2).attempt ≠ 1 ∧ live.en.view.get .a ≠ .opened ∧ live.en.queue.length < 8
      ∧ (let other := { waiting .trip with poles := Tri.single .b, joined := Tri.single .b }
         let q := other :: List.replicate 7 (waiting .close)
         takeOut (Tri.single .a) (StrokeRequest.isTripOf 1) q = q ∧ 8 ≤ q.length
          ∧ q = (other :: List.replicate 6 (waiting .close))
            ++ waiting .close :: [])
      ∧ (flying .close 1).cut = false ∧ ({ flying .close 1 with cut := true }).cut = true := by decide

/-- R70: a close that has been cut stays in flight when its pole shows CLOSED, and one that has not ends. -/
theorem test_cut_close_stays_in_flight :
    let s := fun (cut : Bool) => { live with
      en := { live.en with view := Tri.all .opened, stroke := some { flying .close 1 with cut := cut } },
      mail := { noMail with enPoles := [(.a, .closed)] } }
    (after .strokePoleChange (s true)).en.stroke.isSome = true
      ∧ (after .strokePoleChange (s false)).en.stroke.isSome = false := by decide

theorem test_premises_AlarmsAndWithdrawnCloses :
    [waiting .trip] = [] ++ waiting .trip :: [] ∧ (waiting .trip).poles.get .a = true
      ∧ (waiting .trip).alarm = false ∧ (waiting .trip).arrival + 2000 ≤ live.elapsed
      ∧ live.elapsed < ({ waiting .trip with arrival := 98001 }).arrival + 2000
      ∧ (flying .close 1).kind = .close ∧ (flying .trip 1).kind = .trip := by decide

theorem test_premises_CabinetPlacesAndRemovesTags :
    Ready live ∧ 4 ≤ (4#8).toNat ∧ (3#8).toNat = TagKind.systemHold.code ∧ 9999 < (10000#16).toNat
      ∧ ¬ 9999 < (9999#16).toNat ∧ (∃ e ∈ live.cfg.roster, e.code = (11#16).toNat)
      ∧ (∃ e ∈ live.cfg.roster, e.code = (12#16).toNat ∧ e.supervisor = true)
      ∧ live.tags.table.length < 8 ∧ (settled .hotLine (some 11)).removal = none := by decide

theorem test_premises_TagListsAndTheRemoteBlock :
    Ready live ∧ Hearing live ∧ (∃ e ∈ [settled .remoteBlock none], e.kind = .remoteBlock ∧ e.removal = none)
      ∧ ¬ ∃ e ∈ live.tags.table, e.kind = .remoteBlock := by decide

/-- A frame in the optical buffer. -/
def buffered : TokenFrame := { id := 0, crew := 11#16, action := 0#8, number := 1#8 }

/-- A reply on its way to the handheld. -/
def opticalReply : OpticalReply :=
  { crew := 11#16, action := 0#8, number := 1#8, result := .ok, count := 1, hold := false, lines := none }

theorem test_premises_OpticalFramesAreBuffered :
    live.readsDone = true ∧ 4 ≤ (List.replicate 4 buffered).length ∧ [buffered] ≠ []
      ∧ live.opt.buffer = [] ∧ [buffered, { buffered with id := 1 }] = buffered :: { buffered with id := 1 } :: []
      ∧ [buffered].length < 4 ∧ ({ startOptical with sending := some opticalReply }).sending = some opticalReply
      ∧ startOptical.lastByte + 20 < live.elapsed ∧ State.reset.readsDone = false ∧ Ready live := by decide

theorem test_premises_OpticalFramesAreServed :
    live.opt.buffer = [] ∧ live.opt.sending = none ∧ (∃ e ∈ live.cfg.roster, e.code = (11#16).toNat)
      ∧ ¬ (∃ e ∈ live.cfg.roster, e.code = (13#16).toNat) ∧ live.tags.table.length < 8
      ∧ (settled .doNotClose (some 12)).removal = none := by decide

/-- A part at the end of a retained write that covers a COUNTER_SET and holds a tag with no report due to the
cabinet. -/
def counterSetEnding : State :=
  withTags [{ settled .hotLine (some 11) with mark := .held }] { live with
    ret := { live.ret with writing := some noContent },
    meas := { live.meas with owed := [{ request := 0, covered := true }] },
    cab := { live.cab with owed := some { request := 0, kind := 19#8, tag := 3#8 } } }

theorem test_premises_RetainedWriteCompletes :
    ({ live.ret with writing := some noContent }).writing = some noContent ∧ live.ret.writing = none
      ∧ ({ live.ret with writing := some noContent }).writing ≠ none
      ∧ (∀ e ∈ [settled .hotLine (some 11)], e.mark = .none)
      ∧ (let s := counterSetEnding
         s.ret.writing = some noContent ∧ s.cab.owed.map OwedReply.request = some 0
           ∧ s.tags.table.map TagEntry.mark = [.held] ∧ s.tags.table.map TagEntry.replyTo = [.nobody]
           ∧ s.meas.owed = [{ request := 0, covered := true }]) := by decide

/-- R11, R122: COUNTER_SET is answered by the write that also settles a tag. -/
theorem test_counter_set_is_answered_beside_a_tag :
    ((after (.retainedWriteComplete false) counterSetEnding).cab.replies.map CabinetReply.code = [.ok])
      ∧ ((after (.retainedWriteComplete true) counterSetEnding).cab.replies.map CabinetReply.code
        = [.okNotRetained]) := by decide

/-- R121: a request that finds a write in hand sets rewrite-pending; one that finds none starts a write. -/
theorem test_rewrite_requests :
    (requestRewrite { live with ret := { live.ret with writing := some noContent } }).ret
        = { live.ret with writing := some noContent, rewrite := true }
      ∧ ((requestRewrite (withTags [settled .hotLine (some 11)] live)).tags.table.map TagEntry.mark)
        = [.held] := by decide

/-- R125: a write lost to a fault keeps the previous base on the chip. -/
theorem test_faulted_write_keeps_the_base :
    (after (.retainedWriteComplete true) { live with
      ret := { live.ret with
        writing := some noContent, suspect := true,
        chip := { live.ret.chip with content := { noContent with base := 704 } } } }).ret.chip.content.base
      = 704 := rfl

/-- A part at the end of a retained write with this one entry in its table. -/
def completing (e : TagEntry) : State :=
  withTags [e] { live with
    ret := { live.ret with writing := some noContent },
    cab := { live.cab with owed := some { request := 0, kind := 12#8, tag := 3#8 } },
    opt := { live.opt with buffer := [{ id := 0, crew := 11, action := 2#8, number := 7#8 }] } }

/-- An entry that the write in hand leaves out, with the source of its removal. -/
def removed (source : ReplyTo) : TagEntry :=
  { settled .remoteBlock none with
    mark := .left,
    removal := some { source := .cabinet, code := some 11, supervisor := false, replyTo := source } }

theorem test_premises_TagsAreReportedAndDropped :
    live.ret.rewrite = false ∧ live.ret.suspect = false
      ∧ ({ live.ret with rewrite := true, suspect := true, writing := some noContent }).rewrite = true
      ∧ ({ settled .hotLine (some 11) with mark := .left }).mark = .left
      ∧ ({ settled .hotLine (some 11) with mark := .held, reported := false }).reported = false
      ∧ (let s := completing (removed (.cabinet 0))
         s.power = .running ∧ s.ret.writing = some noContent ∧ s.cab.owed.map OwedReply.request = some 0
           ∧ (∀ w ∈ s.meas.owed ++ s.en.owed, w.covered = true → w.request ≠ 0)
           ∧ s.opt.buffer.map TokenFrame.id = [0] ∧ s.opt.sending = none ∧ s.rad.state = .idle
           ∧ packetCost s.cfg.radio 8 ≤ s.rad.credit)
      ∧ 0 < packetCost live.cfg.radio 8 ∧ RadioState.off ≠ .idle := by decide

/-- R82, R88, R91: the drops of two HOT_LINE entries are signalled with the number each leaves, "disarmed" goes
out at the last, and the pending hold's signals follow. -/
theorem test_drops_are_signalled_in_order :
    let hot := { settled .hotLine (some 11) with mark := .left }
    let s := completing (removed .nobody)
    let t := after (.retainedWriteComplete false) { s with
      tags := { table := [hot, settled .doNotClose (some 11), { hot with crew := some 12 }],
                holdPending := true } }
    t.mail.seqTags = [.removed .hotLine 1, .removed .hotLine 0, .inForce .systemHold, .holdCleared]
      ∧ t.mail.arming = [false] := by decide

/-- R88: the removal of the cabinet and of the optical port are answered by the outcome of the write. -/
theorem test_removals_are_answered :
    (after (.retainedWriteComplete true) (completing (removed (.cabinet 0)))).cab.replies.map CabinetReply.code
        = [.okNotRetained]
      ∧ (after (.retainedWriteComplete false) (completing (removed (.optical 0)))).opt.sending.map
          (fun r => (r.result, r.count)) = some (.ok, 0) := by decide

/-- R93, R154: BLOCK_SET and BLOCK_CLEAR have their results in the reply slot at the report. -/
theorem test_block_results_enter_the_slot :
    (after (.retainedWriteComplete false) (completing
        { settled .remoteBlock none with mark := .held, reported := false, replyTo := .radio 4#8 9#8 })).rad.slot
        = some { command := 4#8, number := 9#8, code := .ok, tags := none, inSend := true }
      ∧ ((after (.retainedWriteComplete true) (completing (removed (.radio 5#8 9#8)))).rad.slot.map
          fun x => (x.command, x.code)) = some (5#8, .okNotRetained) := by decide

theorem test_premises_StartUpReadsAndSettingsWrites :
    State.reset.power = .running ∧ State.reset.readsDone = false ∧ State.reset.meas.settled = false
      ∧ State.reset.ret.writing = none ∧ State.reset.tags.holdPending = false
      ∧ storedCopy (setStoredCopy factoryStored .roster none) .roster = none
      ∧ live.store.writing = none ∧ live.store.waiting = []
      ∧ State.reset.seq.created = false
      ∧ ({ State.reset with meas := { startMeasurement with settled := true } }).meas.settled = true
      ∧ 10 ≤ ({ State.reset with elapsed := 10, readsDone := true }).elapsed := by decide

theorem test_stored_form_is_good (c : BlockContent) :
    (storedForm c).crc = crc16 (storedForm c).content.bytes ∧ (storedForm c).content = c := ⟨rfl, rfl⟩

/-- Every stored block of the first start passes its CRC and is the block of its name. -/
theorem test_factory_blocks_are_good (b : BlockName) :
    ∃ x, storedCopy State.reset.store.stored b = some x ∧ x.crc = crc16 x.content.bytes
      ∧ x.content.name = b := by
  suffices h : ∃ c : BlockContent, storedCopy factoryStored b = some (storedForm c) ∧ c.name = b by
    obtain ⟨c, hc, hn⟩ := h
    exact ⟨storedForm c, hc, (test_stored_form_is_good c).1, hn⟩
  cases b with
  | protection => exact ⟨.protection defaultProtection, rfl, rfl⟩
  | curve n => exact ⟨.curve n (defaultCurve n), by simp [factoryStored, storedCopy, Vector.get, Fin.cast], rfl⟩
  | battery => exact ⟨.battery defaultBattery, rfl, rfl⟩
  | radio => exact ⟨.radio defaultRadio, rfl, rfl⟩
  | roster => exact ⟨.roster [], rfl, rfl⟩
  | capture => exact ⟨.capture defaultCapture, rfl, rfl⟩

theorem test_premises_BatteryTestRuns :
    live.bat.power = some .run ∧ live.meas.supply = true ∧ live.bat.bankFull = true
      ∧ live.bat.charger = .float ∧ live.bat.atRest = true
      ∧ ({ live.bat with testState := .waiting, testTimer := some 100000 }).testTimer = some 100000
      ∧ TestState.running .testRest = true
      ∧ ({ live.bat with testState := .retryWait, retryTimer := some 100001 }).retryTimer = some 100001
      ∧ ({ live.bat with testState := .testRest, restTimer := some 100000 }).restTimer = some 100000
      ∧ (∀ p ∈ allPoles, (live.seq.recs.get p).state = .rest) ∧ live.mail.rest = []
      ∧ (inState { startRecord with state := .timing } live).seq.recs.a.state = .timing := by decide

theorem test_premises_BatteryTestEnds :
    (let b := { live.bat with testState := .loaded, loadTimer := some 100000, v0 := some 2500 }
     b.testState = .loaded ∧ b.loadTimer = some 100000 ∧ b.v0 = some 2500 ∧ b.testState.running = true)
      ∧ ({ noMail with rest := [{ departure := true, change := some false }] }).rest
        = { departure := true, change := some false } :: []
      ∧ ({ noMail with rest := [{ departure := false, change := none }] }).rest
        = { departure := false, change := none } :: []
      ∧ live.bat.testState.running = false := by decide

theorem test_premises_BatteryTimersAndRequests :
    (let b := { live.bat with absorbTimer := some 100000, charger := .absorb, window := some 100001 }
     b.absorbTimer = some 100000 ∧ b.charger = .absorb ∧ b.window = some 100001) ∧ live.elapsed < 100001
      ∧ ({ noMail with bank := [true] }).bank = true :: [] ∧ Ready live ∧ live.bat.testState = .idle := by
  decide

/-- A part in a power state, one delivery before it may step, with ten samples of a battery voltage, a
waiting close and the crew-visit window open. -/
def shedding (p : PowerState) (v : Int) : State :=
  { live with
    meas := { live.meas with
      samples := 10, windows := { live.meas.windows with vBatt := List.replicate 10 v } },
    bat := { live.bat with power := some p, fall := 9, rise := 59, window := some 200000 },
    en := { live.en with
      settle := some 100200,
      queue := [{ kind := .close, poles := Tri.full, origin := .commandCabinet, joined := Tri.empty,
                  arrival := 99000, attempt := 1, alarm := false }] } }

theorem test_premises_DeliveryMovesPowerAndCharger :
    (let s := { live with meas := { live.meas with samples := 10 } }
     s.power = .running ∧ s.meas.samples = 10 ∧ s.bat.power = some .run ∧ s.bat.testState.running = false
       ∧ s.bat.charger = .float ∧ s.meas.supply = true)
      ∧ 9 ≤ ({ live.bat with fall := 9 }).fall
      ∧ 59 ≤ ({ live.bat with rise := 59 }).rise ∧ average (List.replicate 10 2299) < 2300
      ∧ ¬ average (List.replicate 10 2300) < 2300 ∧ 3100 < average (List.replicate 10 3101)
      ∧ (let b := { live.bat with testState := .loaded, charger := .testRest }
         b.testState.running = true ∧ b.charger = .testRest ∧ b.power = some .run)
      ∧ (let s := shedding .shedHost 2159
         s.power = .running ∧ s.meas.samples = 10 ∧ s.bat.power = some .shedHost ∧ 9 ≤ s.bat.fall
           ∧ average s.meas.windows.vBatt < 2160)
      ∧ (let s := shedding .holdover 2501
         s.bat.power = some .holdover ∧ 2500 < average s.meas.windows.vBatt ∧ 59 ≤ s.bat.rise) := by
  decide +kernel

/-- A delivery that brings the sixtieth tail count of a charger in ABSORB, a battery test waiting. -/
def tailing (volts : Int) : State :=
  let s := shedding .run volts
  { s with
    meas := { s.meas with
      supply := true, windows := { s.meas.windows with vSupply := List.replicate 10 120 } },
    bat := { s.bat with
      charger := .absorb, tail := 59, testState := .waiting, testKind := some .requested, bankFull := true,
      atRest := true } }

/-- R102, R108, R112: the charger's move to FLOAT opens the gate of a waiting test, which begins, and is aborted
at once where the same delivery leaves RUN; with no test waiting the charger stays in FLOAT, and below the
tail current the count rises. -/
theorem test_float_begins_a_waiting_test :
    (let t := after .averageDelivery (tailing 2600)
     (t.bat.testState, t.bat.charger, t.bat.restTimer) = (.testRest, .testRest, some 130000))
      ∧ (let t := after .averageDelivery (tailing 2299)
         (t.bat.testState, t.bat.charger, t.bat.power) = (.idle, .bulk, some .shedRadio))
      ∧ (let s := tailing 2600
         let t := after .averageDelivery { s with bat := { s.bat with testState := .idle } }
         (t.bat.charger, t.bat.tail) = (.float, 60))
      ∧ (let s := tailing 2600
         let t := after .averageDelivery { s with bat := { s.bat with tail := 58 } }
         (t.bat.charger, t.bat.tail) = (.absorb, 59)) := by decide +kernel

/-- R61, R76, R117, R118: a fall to HOLDOVER holds the charger, refuses the waiting close, closes the window
and turns the cabinet off. -/
theorem test_holdover_holds_and_refuses :
    (let t := after .averageDelivery (shedding .shedHost 2159)
     (t.en.charger, t.en.queue, t.mail.strokes, t.mail.bank)
         = (.held, [], [.refusal Tri.full .holdover], [false])
       ∧ (t.bat.power, t.bat.window, t.bat.cabinetSwitch, t.mail.cabinetPower)
         = (some .holdover, none, false, [false])) := by decide +kernel

/-- R117: a rise to RUN permits the modem, and a fall from it withdraws the permission. -/
theorem test_permission_follows_run :
    (after .averageDelivery (shedding .shedRadio 2441)).mail.permission = [true]
      ∧ (after .averageDelivery (shedding .run 2299)).mail.permission = [false] := by decide +kernel

theorem test_premises_RecordsAreTakenIn :
    [record 1] ≠ [] ∧ (EventBody.settingsDefaulted .roster).cls ≠ .status ∧ live.readsDone = true
      ∧ 64 ≤ (List.replicate 64 (record 1)).length ∧ live.eq.records.length ≤ 64 ∧ live.eq.next < 65536
      ∧ (let l := [(RecordSource.battery, EventBody.settingsDefaulted .roster)]
         l = [] ++ (.battery, .settingsDefaulted .roster) :: [] ∧ ∀ x ∈ l, x.1 ≠ .startUp)
      ∧ (0 + 1) % 65536 ∈ [record 1].map EventRecord.number
      ∧ (63 + 1) % 64 = 0 ∧ defaultRadio.filter.testBit (EventBody.trip Tri.full .phaseToc 1 (Quad.all 0)
        (Quad.all false) none none none).kind = true
      ∧ ({ live.eq with fetch := some { request := 0, deadline := 5 } }).fetch
        = some { request := 0, deadline := 5 }
      ∧ live.eq.next ∉ live.eq.records.map EventRecord.number := by decide

/-- A part with a fetch that waits and one event raised, under this kind filter of the radio. -/
def fetching (filter : Nat) : State :=
  { live with
    cfg := { live.cfg with radio := { live.cfg.radio with filter := filter } },
    eq := { live.eq with fetch := some { request := 0, deadline := 100500 } },
    cab := { live.cab with owed := some { request := 0, kind := 3#8, tag := 1#8 } },
    mail := { live.mail with raised := [(.battery, .settingsDefaulted .roster)] } }

/-- R143, R138: the record that answers a waiting fetch is marked FETCHED, and leaves the queue at once where
the radio filter stops its kind. -/
theorem test_fetched_record_leaves_or_stays :
    ((after (.recordArrival .battery) (fetching 0)).eq.records = [])
      ∧ ((after (.recordArrival .battery) (fetching 4294967295)).eq.records.map
        fun r => (r.cabinet, r.radio)) = [(.fetched, .pending)] := by decide +kernel

theorem test_premises_StatusRecordsAndRadioTimers :
    [{ record 1 with cls := .status }] = [] ++ { record 1 with cls := .status } :: []
      ∧ (∀ x ∈ [record 2], x.cls ≠ .status) ∧ State.reset.readsDone = false ∧ live.readsDone = true
      ∧ (let l := [(RecordSource.radio, EventBody.status (statusContent live))]
         l = [] ++ (.radio, .status (statusContent live)) :: [] ∧ ¬ ∃ x ∈ l, x.1 = .startUp)
      ∧ live.rad.refillTimer = some 100000
      ∧ live.rad.statusTimer = some 100000 ∧ 100000 ≤ live.elapsed
      ∧ ({ record 1 with radio := .awaitingAck, nextTry := 100000 }).nextTry ≤ live.elapsed := by decide

theorem test_premises_FetchGivesTheOldestRecord :
    Ready live ∧ 2 ≤ (2#8).toNat ∧ (1#8).toNat < 2 ∧ ([record 1, record 2].map EventRecord.number).Nodup
      ∧ (record 1).cabinet = .pending ∧ (∀ x ∈ live.eq.records, x.cabinet ≠ .pending)
      ∧ ({ startCabinet with owed := some { request := 0, kind := 3#8, tag := 1#8 } }).owed
        = some { request := 0, kind := 3#8, tag := 1#8 } := by decide

theorem test_premises_SendsArePaidFor :
    0 < defaultRadio.bitRate ∧ live.rad.state = .idle ∧ live.rad.slot = none
      ∧ (candidates (withRecords [record 1] live)).length = 1
      ∧ packetCost live.cfg.radio (record 1).wireLength ≤ live.rad.credit
      ∧ ((record 1).cls = .routine ∧ (record 1).nextTry ≤ live.elapsed)
      ∧ ((List.replicate 5 (record 1)).take 4).length = 4 := by decide +kernel

theorem test_premises_SendsEnd :
    (let x : Send := { number := 7, records := some [1] }
     x.records = some [1] ∧ ([1] : List Nat) ≠ [] ∧ x.number = (7#8).toNat ∧ x.number ≠ (8#8).toNat)
      ∧ ({ live.rad with modemTimer := some 100000, timeouts := 2 }).modemTimer = some 100000
      ∧ (let slot : SlotResult := { command := 1#8, number := 7#8, code := .ok, tags := none, inSend := true }
         let rad := { live.rad with
           state := .transmitting, send := some { number := 7, records := none }, slot := some slot,
           modemTimer := some 100000, timeouts := 1 }
         rad.send = some { number := 7, records := none } ∧ rad.slot = some slot ∧ 100000 ≤ live.elapsed
          ∧ rad.timeouts < 2 ∧ 2 ≤ ({ rad with timeouts := 2 }).timeouts
          ∧ Hearing { live with rad := rad } ∧ rad.state = .transmitting)
      ∧ ({ noMail with permission := [false] }).permission = false :: []
      ∧ (let r := { record 1 with inSend := true }
         r ∈ [r] ∧ r.number ∈ [1] ∧ r.inSend = true ∧ r.radio = .pending) := by decide

theorem test_premises_ModemPowerAndRadioCommands :
    ({ live.rad with recoveryTimer := some 100000, readyWait := some 100001 }).readyWait = some 100001
      ∧ Hearing { live with rad := { live.rad with state := .recovering } } ∧ Hearing live ∧ Ready live
      ∧ ({ noMail with permission := [false] }).permission = false :: [] ∧ live.rad.send = none
      ∧ (leBytes 2 1).length = 2 := by decide

theorem test_premises_CapturesAreMade :
    live.cap.segments = [] ++ recordingSegment 0 :: [freeSegment] ∧ (recordingSegment 0).state = .recording
      ∧ (recordingSegment 0).capture = none ∧ freeSegment.state = .free
      ∧ (recordingSegment 0).first ≤ 1 ∧ live.cap.lastSet < 1 + (recordingSegment 0).ring.length := by decide

/-- A frozen segment with a capture of one set. -/
def frozenSegment : Segment :=
  { state := .frozen, recorded := 1, ring := [phaseSet 300], first := 1,
    capture := some { id := 0, trigger := 1, time := ⟨0, 0, false⟩, preHeld := 1, postCount := 8,
                      postWritten := 8 } }

/-- A segment in POST, with its trigger set 3 and so many of two sets after it written. -/
def posting (written : Nat) : Segment :=
  { state := .post, recorded := 1, ring := [phaseSet 300], first := 1,
    capture := some { id := 0, trigger := 3, time := ⟨0, 0, false⟩, preHeld := 1, postCount := 2,
                      postWritten := written } }

/-- The part with a segment in POST, another segment, and a set for the capture unit. -/
def recordingSet (index written : Nat) (other : Segment) : State :=
  { live with
    cap := { live.cap with segments := [posting written, other] },
    mail := { noMail with capSets := [{ phaseSet 200 with index := index }] } }

/-- R162: a set up to the trigger set counts nothing, the first after it counts one, and the one that reaches
the post count, or finds it reached, freezes the segment; a FREE segment then records. -/
theorem test_premises_sets_after_the_trigger :
    (posting 0).state = .post ∧ (posting 0).capture.map CaptureFields.postCount = some 2
      ∧ (recordingSet 3 0 frozenSegment).cap.segments = [] ++ posting 0 :: [frozenSegment]
      ∧ ((after .captureSetWrite (recordingSet 3 0 frozenSegment)).cap.segments.map Segment.state)
        = [.post, .frozen]
      ∧ ((after .captureSetWrite (recordingSet 4 0 frozenSegment)).cap.segments.map Segment.state)
        = [.post, .frozen]
      ∧ ((after .captureSetWrite (recordingSet 5 1 frozenSegment)).cap.segments.map Segment.state)
        = [.frozen, .frozen]
      ∧ ((after .captureSetWrite (recordingSet 6 2 freeSegment)).cap.segments.map Segment.state)
        = [.frozen, .recording]
      ∧ (after .captureSetWrite (recordingSet 6 2 freeSegment)).cab.flags.captureReady = true := by
  decide

theorem test_premises_CapturesAreListedReadAndReleased :
    Ready live ∧ frozenSegment.state = .frozen ∧ frozenSegment.capture.map CaptureFields.id = some (0#16).toNat
      ∧ (∀ g ∈ live.cap.segments, ¬ g.state = .frozen) ∧ 9 < (10#16).toNat
      ∧ ({ live.cap with cursor := some (0, 9) }).cursor = some (0, 9) := by decide

theorem test_premises_RequestsAreTakenInTurn :
    startCabinet.started = false ∧ live.cab.started = true
      ∧ ({ live.eq with fetch := some { request := 2, deadline := 5 } }).fetch
        = some { request := 2, deadline := 5 }
      ∧ 27 ≤ (27#8).toNat ∧ 4 ≤ (4#8).toNat ∧ Ready live ∧ live.cab.openBytes = []
      ∧ ([1#8] : List Byte).length ≠ 0 := by decide

theorem test_premises_AttentionStatusAndLinkAreServed :
    Ready live ∧ 128 ≤ (128#8).toNat ∧ (127#8).toNat < 128 ∧ 240 < (241#8).toNat
      ∧ ({ noMail with cabinetPower := [false] }).cabinetPower = false :: []
      ∧ ({ startCabinet with openBytes := [0xC3#8] }).openBytes ≠ []
      ∧ startCabinet.lastByte + 10 < live.elapsed := by decide

theorem test_premises_SettingsAreStagedAndApplied :
    Ready live ∧ 6 ≤ (6#8).toNat ∧ 12 ≤ (12#8).toNat ∧ blockOf 4#8 0#8 = some .roster
      ∧ lengthSuits .roster (BlockContent.roster []).bytes = true
      ∧ blockOf 4#8 1#8 = none ∧ (4#8).toNat ≠ 1 ∧ (1#8).toNat ≠ 0
      ∧ (let fifo := [BlockContent.roster [], .battery { defaultBattery with testPeriod := 0 }]
         fifo = [.roster [], .battery { defaultBattery with testPeriod := 0 }]
          ∧ BlockName.roster ≠ .battery ∧ applyPoint startStager .roster = true
          ∧ applyPoint startStager .battery = true ∧ applyPoint startStager .protection = false)
      ∧ mayApply live .roster = true ∧ mayApply live .battery = true ∧ mayApply live .radio = true
      ∧ mayApply live .protection = false
      ∧ mayApply { live with stage := { startStager with atRest := true } } .protection = true
      ∧ (let s := { live with seq := { live.seq with
            recs := { live.seq.recs with a := { startRecord with state := .lockout } } } }
         (s.seq.recs.get .a).state = .lockout ∧ (s.seq.recs.get .b).state = .rest)
      ∧ defaultBattery.testPeriod ≠ 0 ∧ lengthSuits .roster [] = false ∧ ({ startStager with atRest := true }).atRest = true
      ∧ ({ noMail with stageRest := [true] }).stageRest = true :: [] := by decide

/-- R178: a block that is no CURVE, and the retained record, have no curve id, and the byte is all ones. -/
theorem test_absent_curve_id :
    BlockName.radio.bytes = [3#8, 255#8] ∧ (BlockName.curve 11).bytes = [1#8, 11#8]
      ∧ faultBlockBytes none = [6#8, 255#8] := by decide

/-- R176: the apply point is judged from the last notice taken, also where the unit has moved on. -/
theorem test_apply_point_follows_the_notices :
    mayApply { live with
      stage := { startStager with atRest := true, testRunning := true },
      seq := { live.seq with recs := Tri.all { startRecord with state := .timing } } } .protection = true
      ∧ mayApply { live with stage := { startStager with testRunning := true } } .battery = false := by decide

/-- R158: a RADIO block does not apply while a send is in flight, whatever the last notice said. -/
theorem test_radio_apply_waits_for_the_send :
    mayApply { live with rad := { live.rad with state := .transmitting } } .radio = false := by decide

/-- R50, R52: a change to GANGED with all records in REST moves none; a pickup whose notice is on its way
reaches all three; a dead time takes the others to LOCKOUT with it. -/
theorem test_mode_change_brings_records_together :
    let with_ := fun (st : SeqState) => (changeTripMode .single { live with seq := { live.seq with
      recs := { live.seq.recs with a := { startRecord with state := st } } } }).seq.recs.map SeqRecord.state
    with_ .rest = Tri.all .rest ∧ with_ .timing = Tri.all .timing ∧ with_ .deadTime = Tri.all .lockout := by
  decide

theorem test_premises_BlocksChangeTheirOwnState :
    exec .sequenceTagInForce { live with mail := { noMail with seqTags := [.holdSet] } }
      = .next (after .sequenceTagInForce { live with mail := { noMail with seqTags := [.holdSet] } })
      ∧ live.ret.writing = none ∧ (completing (removed .nobody)).ret.writing ≠ none :=
  ⟨rfl, rfl, by decide⟩

theorem test_premises_RequestFramesSpellRequests :
    live.power = .running ∧ live.cab.openBytes = [] ∧ (List.replicate 238 (0#8 : Byte)).length ≤ 238 := by
  decide +kernel

theorem test_premises_TokenFramesAndPacketsSpellCommands :
    live.readsDone = true ∧ live.opt.openBytes = [] ∧ 6 ≤ (6#8).toNat ∧ live.opt.buffer = []
      ∧ (List.replicate 10 (0#8 : Byte)).length = 10 ∧ live.cfg.radio.own < 65536
      ∧ live.cfg.radio.master < 65536 ∧ 2 ≠ live.cfg.radio.own ∧ 8 ≤ (8#8).toNat ∧ Hearing live
      ∧ 1#8 ∈ [1#8, 4#8, 5#8, 7#8] ∧ [0#8].length ≠ 0 ∧ [0#8, 0#8].length ≠ 1 ∧ [0#8].length ≠ 6
      ∧ [0#8].length % 2 = 1 ∧ 16 < (List.replicate 17 0#8).length
      ∧ (0#16 : Half) ≠ crc16 [0#8, 0x42#8, 1#8] := by
  decide +kernel

/-- R155: a TAG_QUERY with a body of one byte is answered BAD_LENGTH. -/
theorem test_body_of_another_length :
    (takeCommand 7#8 9#8 [0#8] { live with rad := { live.rad with state := .off } }).rad.slot
      = some { command := 7#8, number := 9#8, code := .badLength, tags := none, inSend := false } := by
  decide

theorem test_premises_SettingsBlocksReadBack :
    (BlockContent.battery defaultBattery).inRange (fun _ => true) (fun _ => false) = true
      ∧ (BlockContent.curve 0 factoryCurve0).inRange (fun _ => true) (fun _ => true) = true
      ∧ lengthSuits .roster [1#8, 11#8, 0#8, 2#8] = true ∧ lengthSuits (.curve 3) [2#8, 0#8] = false
      ∧ checkBlock defaultSettings [] .roster [1#8, 11#8, 0#8, 2#8] = .bad 1
      ∧ fieldWrong (curveFilled defaultSettings []) (curveNamed defaultSettings []) .roster
          [1#8, 11#8, 0#8, 2#8] 1 = true := by
  decide +kernel

theorem test_premises_QueuesStaySound :
    QueueSound (withRecords [record 1, record 2] live) ∧ live.en.stroke = none := by decide

theorem test_premises_PartStaysSound :
    ClockSound live ∧ CreditSound live ∧ StageSound live ∧ BatteryTestSound live ∧ CaptureSound live
      ∧ TagsSound (withTags [settled .hotLine (some 11)] live) ∧ CountersSound live := by decide

/-- A commanded close that waits for pole A, before the arbiter judges it. -/
def closing : State :=
  withRequest (.close (Tri.single .a) .commandCabinet) { live with
    en := { live.en with view := Tri.all .opened }, pending := [.closeRequestArrival] }

theorem test_premises_ClosesBeginAndTagsLeaveSafely :
    StageSound closing ∧ closing.en.stroke = none
      ∧ ((after .closeRequestArrival closing).en.stroke.map Stroke.kind) = some .close
      ∧ ({ settled .hotLine (some 11) with mark := .left }).mark = .left := by decide

end Sys2Proof.Tests
end

section
/-! PROOFS. Measurement inputs and time: reset, the time base, COUNTER_READ, COUNTER_SET and
POLE_FAIL_CLEAR. -/

namespace Sys2Proof.Machine

/-! ## Reset -/

theorem reset_elements (p : Pole) : State.reset.oc.phase.get p = idleElement := by
  cases p <;> rfl

theorem reset_records (p : Pole) : State.reset.seq.recs.get p = startRecord := by
  cases p <;> rfl

theorem reset_recordsSound : RecordsSound State.reset := by
  intro p
  rw [reset_records]
  decide

theorem reset_elementsSound : ElementsSound State.reset := by
  refine ⟨fun p => ?_, by decide⟩
  rw [reset_elements]
  decide

theorem reset_chip_invalid : State.reset.ret.chip.valid = false := rfl

/-- Settles O3: the values by evaluation of the reset state, the poles one by one; of the chip, which holds no
valid record, nothing is asked. -/
theorem resetLeavesASoundPart : Obligations.ResetLeavesASoundPart := by
  refine ⟨⟨rfl, rfl, rfl, reset_elements, rfl, rfl, rfl, rfl, rfl, rfl, rfl, rfl, rfl, rfl, rfl, rfl, rfl,
    rfl, rfl, rfl, rfl, rfl, rfl, rfl, rfl, rfl, rfl, rfl, rfl, rfl, rfl, rfl, rfl⟩,
    by decide, by decide, by decide, by decide, by decide, by decide, ?_, by decide, ?_, by decide,
    by decide, reset_recordsSound, reset_elementsSound, by decide⟩
  · simp [ChipTagsSound, reset_chip_invalid]
  · simp [ChipCountersSound, reset_chip_invalid]

/-! ## The time base (R12, R13) -/

theorem Stamp.tick_within {t : Stamp} (h : t.ms < 999) : t.tick = { t with ms := t.ms + 1 } := by
  simp [Stamp.tick, show t.ms + 1 < 1000 by omega]

theorem Stamp.tick_full {t : Stamp} (h : t.ms = 999) :
    t.tick = { t with ms := 0, seconds := (t.seconds + 1) % 4294967296 } := by
  simp [Stamp.tick, h]

/-- R12: the tick of a time base that counts within its ranges. -/
theorem Stamp.tick_eq {t : Stamp} (hm : t.ms < 1000) (hs : t.seconds < 4294967296) :
    t.tick = { t with
      ms := if t.ms = 999 then 0 else t.ms + 1,
      seconds := if t.ms = 999 then (if t.seconds = 4294967295 then 0 else t.seconds + 1) else t.seconds } := by
  by_cases hf : t.ms = 999
  · have hw : (t.seconds + 1) % 4294967296 = if t.seconds = 4294967295 then 0 else t.seconds + 1 := by
      split <;> omega
    simp [Stamp.tick_full hf, hf, hw]
  · simp [Stamp.tick_within (show t.ms < 999 by omega), hf]

theorem badClock_iff (word : Half) : badClock word = true ↔ 999 < word.toNat % 1024 :=
  decide_eq_true_iff

/-- A command of the master station that reaches the part is taken. -/
theorem whenHeard_hearing {f : State → State} {s : State} (h : Hearing s) : whenHeard f s = f s := by
  obtain ⟨-, hr, hb⟩ := h
  simp [whenHeard, (modemPowered_iff s).2 ⟨hr, hb⟩]

/-- A cabinet request that finds the link ready runs its owner with the reply owed. -/
theorem running_request {kind tag : Byte} {owner : Nat → State → State} {s : State} (h : Ready s) :
    whenRunning (request kind tag owner) s = .next (owner s.cab.nextRequest (owing kind tag s)) := by
  rw [whenRunning_running h.1, request_ready h]

/-- R13: TIME_SET. -/
theorem exec_timeSet (tag : Byte) (seconds : Wide) (word : Half) {s : State} (h : Ready s) :
    exec (.timeSet tag seconds word) s =
      if 999 < word.toNat % 1024 then .next (replied 17#8 tag .badValue (.badField none) s)
      else .next (replied 17#8 tag .ok .nothing (setClock .cabinet seconds word s)) := by
  have hexec : exec (.timeSet tag seconds word) s
      = .next (serveTimeSet seconds word s.cab.nextRequest (owing 17#8 tag s)) := running_request h
  by_cases hb : 999 < word.toNat % 1024
  · rw [hexec, if_pos hb, serveTimeSet, if_pos ((badClock_iff word).2 hb)]
    exact congrArg _ (answer_owing ..)
  · rw [hexec, if_neg hb, serveTimeSet, if_neg (mt (badClock_iff word).1 hb)]
    exact congrArg _ (answer_owing 17#8 tag .ok .nothing (setClock .cabinet seconds word s))

/-- R13: TIME_SYNC. -/
theorem exec_timeSync (tag : Byte) (seconds : Wide) (word : Half) {s : State} (h : Hearing s) :
    exec (.timeSync tag seconds word) s =
      if 999 < word.toNat % 1024 then .next (judgeSend (withSlot 6#8 tag .badValue none s))
      else .next (judgeSend (withSlot 6#8 tag .ok none (setClock .radio seconds word s))) := by
  have hexec : exec (.timeSync tag seconds word) s = .next (takeTimeSync tag seconds word s) := by
    rw [← whenHeard_hearing (f := takeTimeSync tag seconds word) h]
    exact whenRunning_running h.1
  by_cases hb : 999 < word.toNat % 1024
  · rw [hexec, if_pos hb, takeTimeSync, if_pos ((badClock_iff word).2 hb), putSlot_fresh]
  · rw [hexec, if_neg hb, takeTimeSync, if_neg (mt (badClock_iff word).1 hb), putSlot_fresh]

/-- R12: TIME_BASE_TICK. -/
theorem exec_timeBaseTick {s : State} (h : s.power = .running) :
    exec .timeBaseTick s = .next { s with elapsed := s.elapsed + 1, clock := s.clock.tick } := by
  rw [exec, execTimeBaseTick, whenRunning_running h]

/-- Settles O8: the tick by whether the milliseconds are full, the settings by whether theirs are in range. -/
theorem timeBaseCountsAndIsSet : Obligations.TimeBaseCountsAndIsSet := by
  refine ⟨fun s hp ⟨hm, hs⟩ => ?_, fun tag seconds word s => ⟨exec_timeSet tag seconds word,
    exec_timeSync tag seconds word⟩⟩
  rw [← Stamp.tick_eq hm hs, exec_timeBaseTick hp]

/-! ## Poles as operands (section 12.1) -/

theorem poleOf_eq_none_iff (b : Byte) : poleOf b = none ↔ 3 ≤ b.toNat := by
  unfold poleOf
  generalize b.toNat = n
  match n with
  | 0 | 1 | 2 => simp
  | n + 3 => simp

theorem poleOf_poleCode {b : Byte} {p : Pole} (h : b.toNat = poleCode p) : poleOf b = some p := by
  cases p <;> simp [poleOf, h, poleCode]

theorem exists_poleOf {b : Byte} (h : b.toNat < 3) : ∃ p, poleOf b = some p := by
  rw [← Option.ne_none_iff_exists']
  exact mt (poleOf_eq_none_iff b).1 (by omega)

/-! ## Counters and FAILED marks (R11, R77) -/

section
variable {pole : Byte} {value : Wide} {id : Nat} {p : Pole} {s : State}

theorem serveCounterSet_badIndex (h : poleOf pole = none) :
    serveCounterSet pole value id s = answer id .badIndex .nothing s := by
  simp [serveCounterSet, h, answerCode]

theorem serveCounterSet_badValue (h : poleOf pole = some p) (hv : 999999 < value.toNat) :
    serveCounterSet pole value id s = answer id .badValue (.badField none) s := by
  simp [serveCounterSet, h, counterMax, hv, answerBadValue]

theorem serveCounterSet_sets (h : poleOf pole = some p) (hv : value.toNat ≤ 999999) :
    serveCounterSet pole value id s = requestRewrite { s with meas := { s.meas with
      counters := s.meas.counters.set p value.toNat,
      owed := s.meas.owed ++ [{ request := id, covered := false }] } } := by
  simp [serveCounterSet, h, counterMax, Nat.not_lt.2 hv]

theorem servePoleFailClear_badIndex (h : poleOf pole = none) :
    servePoleFailClear pole id s = answer id .badIndex .nothing s := by
  simp [servePoleFailClear, h, answerCode]

theorem servePoleFailClear_unknown (h : poleOf pole = some p) (hu : s.en.view.get p = .unknown) :
    servePoleFailClear pole id s = answer id .refusedState .nothing s := by
  simp [servePoleFailClear, h, hu, answerCode]

theorem servePoleFailClear_unmarked (h : poleOf pole = some p) (hu : s.en.view.get p ≠ .unknown)
    (hf : s.en.failed.get p = false) :
    servePoleFailClear pole id s = answer id .ok .nothing s := by
  simp [servePoleFailClear, h, hu, hf, answerCode]

theorem servePoleFailClear_clears (h : poleOf pole = some p) (hu : s.en.view.get p ≠ .unknown)
    (hf : s.en.failed.get p = true) :
    servePoleFailClear pole id s = requestRewrite { s with en := { s.en with
      failed := s.en.failed.set p false,
      owed := s.en.owed ++ [{ request := id, covered := false }] } } := by
  simp [servePoleFailClear, h, hu, hf]

end

theorem exec_counterSet (tag pole : Byte) (value : Wide) {s : State} (h : Ready s) :
    exec (.counterSet tag pole value) s
      = .next (serveCounterSet pole value s.cab.nextRequest (owing 19#8 tag s)) := running_request h

theorem exec_poleFailClear (tag pole : Byte) {s : State} (h : Ready s) :
    exec (.poleFailClear tag pole) s
      = .next (servePoleFailClear pole s.cab.nextRequest (owing 16#8 tag s)) := running_request h

/-- Settles O9: each request by the first check that its operands or the pole fail. -/
theorem countersAndMarksAreSet : Obligations.CountersAndMarksAreSet := by
  constructor
  · intro tag pole value s h
    refine ⟨?_, fun h3 => ?_, fun h3 hv => ?_, fun p hp hv => ?_⟩
    · exact (running_request h).trans (congrArg _ (answer_owing ..))
    · rw [exec_counterSet tag pole value h, serveCounterSet_badIndex ((poleOf_eq_none_iff pole).2 h3),
        answer_owing]
    · obtain ⟨p, hp⟩ := exists_poleOf h3
      rw [exec_counterSet tag pole value h, serveCounterSet_badValue hp hv, answer_owing]
    · rw [exec_counterSet tag pole value h, serveCounterSet_sets (poleOf_poleCode hp) hv]
      rfl
  · intro tag pole s h
    refine ⟨fun h3 => ?_, fun p hp => ⟨fun hu => ?_, fun hu hf => ?_, fun hu hf => ?_⟩⟩
    all_goals rw [exec_poleFailClear tag pole h]
    · rw [servePoleFailClear_badIndex ((poleOf_eq_none_iff pole).2 h3), answer_owing]
    · rw [servePoleFailClear_unknown (s := owing 16#8 tag s) (poleOf_poleCode hp) hu, answer_owing]
    · rw [servePoleFailClear_unmarked (s := owing 16#8 tag s) (poleOf_poleCode hp) hu hf, answer_owing]
    · rw [servePoleFailClear_clears (s := owing 16#8 tag s) (poleOf_poleCode hp) hu hf]
      rfl

end Sys2Proof.Machine
end

section
/-! PROOFS. Measurement sets, the slow channels and the average delivery (R1, R3 to R6, R60, R116, R130). -/

namespace Sys2Proof.Machine

/-! ## The bank voltage sample (R60, R67) -/

/-- The arbiter's judgement reaches no further than the queue, the stroke in flight and the strokes handed. -/
theorem arbitrate_eq (n : Nat) (s : State) :
    arbitrate n s = { s with
      en := { s.en with queue := (arbitrate n s).en.queue, stroke := (arbitrate n s).en.stroke },
      mail := { s.mail with strokes := (arbitrate n s).mail.strokes } } := by
  induction n generalizing s with
  | zero => rfl
  | succ n ih =>
    unfold arbitrate
    split
    · rfl
    · split
      · rfl
      · split
        · exact ih _
        · split <;> rfl

theorem judgeArbiter_eq (s : State) :
    judgeArbiter s = { s with
      en := { s.en with queue := (judgeArbiter s).en.queue, stroke := (judgeArbiter s).en.stroke },
      mail := { s.mail with strokes := (judgeArbiter s).mail.strokes } } :=
  arbitrate_eq _ s

/-- A bank voltage sample gives the bank and the charger their values, and reaches beside them no further
than the queue, the stroke in flight, the strokes handed and the notice of a change of "bank full". -/
theorem takeBankSample_eq (bank : Nat) (s : State) :
    takeBankSample bank s = { s with
      en := { s.en with
        bank := bank, charger := chargerAtSample s.en.charger bank,
        bankFullSaid := (takeBankSample bank s).en.bankFullSaid,
        queue := (takeBankSample bank s).en.queue, stroke := (takeBankSample bank s).en.stroke },
      mail := { s.mail with
        bank := (takeBankSample bank s).mail.bank,
        strokes := (takeBankSample bank s).mail.strokes } } := by
  have h := judgeArbiter_eq (setBankCharger (chargerAtSample s.en.charger bank)
    { s with en := { s.en with bank := bank } })
  rw [setBankCharger_eq] at h
  rw [takeBankSample, setBankCharger_eq]
  dsimp only at h ⊢
  generalize judgeArbiter _ = t at h ⊢
  rw [h]

/-! ## Samples (R3, R6) -/

theorem clampTo_eq {lo hi : Int} (h : lo ≤ hi) (v : Int) : clampTo lo hi v = max lo (min hi v) := by
  unfold clampTo
  split
  · omega
  · split <;> omega

theorem pushWindow_short {w : List Int} (h : w.length < 10) (v : Int) : pushWindow w v = w ++ [v] := by
  simp [pushWindow, show w.length + 1 - 10 = 0 by omega]

theorem pushWindow_full {w : List Int} (h : w.length = 9) (x v : Int) :
    pushWindow (x :: w) v = w ++ [v] := by
  simp [pushWindow, h]

theorem badTemperature_eq (temp : Int) : badTemperature temp = decide (temp < -45 ∨ 90 < temp) := by
  simp [badTemperature]

/-- R6: the temperature sample of an expiry, valid or not. -/
theorem takeTemperature_eq (temp : Int) (s : State) :
    takeTemperature temp s = { s with
      meas := { s.meas with
        windows := { s.meas.windows with
          temp := if temp < -45 ∨ 90 < temp then s.meas.windows.temp
            else pushWindow s.meas.windows.temp (max (-40) (min 85 temp)) },
        tempFault := s.meas.tempFault || decide (temp < -45 ∨ 90 < temp),
        tempBad := s.meas.tempBad || decide (temp < -45 ∨ 90 < temp) },
      mail := { s.mail with raised := s.mail.raised ++
        if (temp < -45 ∨ 90 < temp) ∧ s.meas.tempFault = false then
          [(.measurement, .sensorFault (decide (90 < temp)))] else [] } } := by
  rw [takeTemperature, badTemperature_eq]
  by_cases hb : temp < -45 ∨ 90 < temp
  · cases hf : s.meas.tempFault <;> simp [takeBadTemperature, hb, hf, raise]
  · simp [hb, clampTo_eq]

/-- The charger's judgement of a sample, from the voltage as the channel presents it (R60). -/
theorem chargerAtSample_clamped (c : BankCharger) (v : Int) :
    chargerAtSample c (clampTo 0 12000 v).toNat =
      match c with
      | .charging => if 9600 ≤ v then .full else .charging
      | .full => if v < 9200 then .charging else .full
      | .held => .held := by
  have hv := clampTo_eq (show (0 : Int) ≤ 12000 by omega) v
  have hfull : 9600 ≤ (clampTo 0 12000 v).toNat ↔ 9600 ≤ v := by omega
  have hlow : (clampTo 0 12000 v).toNat < 9200 ↔ v < 9200 := by omega
  cases c with
  | charging => simp only [chargerAtSample, hfull]
  | full => simp only [chargerAtSample, hlow]
  | held => rfl

theorem exec_samplingTimer (vBatt iBatt vBank vSupply temp : Int) {s : State} (hp : s.power = .running)
    (hd : s.meas.nextSample ≤ s.elapsed) (hn : s.meas.samples < 10) :
    exec (.samplingTimer vBatt iBatt vBank vSupply temp) s = .next
      (takeBankSample (clampTo 0 12000 vBank).toNat
        (takeTemperature temp (takeSamples vBatt iBatt vBank vSupply s))) := by
  rw [exec, execSamplingTimer, whenRunning_running hp, if_pos (by simp [hd, hn])]

/-- R1, R2: MEASUREMENT_SET. -/
theorem exec_measurementSet (a b c g : Nat) {s : State} (hp : s.power = .running)
    (hd : s.meas.nextSet ≤ s.elapsed) :
    exec (.measurementSet a b c g) s
      = .next (deliverSet (deliveredSet { a := a, b := b, c := c, g := g } s) s) := by
  rw [exec, execMeasurementSet, whenRunning_running hp, if_pos hd]

/-- Settles O5: the set as it is delivered, and the sampling expiry by what the samples, the temperature
and the bank voltage each do. -/
theorem setsAndSamplesAreTaken : Obligations.SetsAndSamplesAreTaken := by
  refine ⟨fun a b c g s hp hd => exec_measurementSet a b c g hp hd,
    fun w v h => pushWindow_short h v, fun w x v h => pushWindow_full h x v, ?_⟩
  intro vBatt iBatt vBank vSupply temp s hp hd hn
  refine ⟨_, exec_samplingTimer vBatt iBatt vBank vSupply temp hp hd hn, ?_⟩
  have ht := takeBankSample_eq (clampTo 0 12000 vBank).toNat
    (takeTemperature temp (takeSamples vBatt iBatt vBank vSupply s))
  rw [takeTemperature_eq] at ht
  rw [takeTemperature_eq]
  generalize takeBankSample _ _ = t at ht ⊢
  rw [ht]
  have hbank := clampTo_eq (show (0 : Int) ≤ 12000 by omega) vBank
  refine ⟨?_, ?_, ?_, ?_, ?_, rfl, rfl⟩
  · simp [takeSamples, clampTo_eq]
  · show ((clampTo 0 12000 vBank).toNat : Int) = _
    omega
  · intro hc
    simp [takeSamples, hc, chargerAtSample]
  · intro hc
    simp only [takeSamples, hc, chargerAtSample_clamped]
  · intro hc
    simp only [takeSamples, hc, chargerAtSample_clamped]

/-! ## Averages (R4) -/

/-- An average is the nearest whole number to the exact mean, a half toward the more positive value. -/
theorem average_nearest {w : List Int} (h : w ≠ []) :
    2 * w.sum - w.length < 2 * w.length * average w
      ∧ 2 * w.length * average w ≤ 2 * w.sum + w.length := by
  have hl : (0 : Int) < 2 * w.length := by
    have := List.length_pos_iff.2 h
    omega
  have hdiv := Int.emod_add_mul_ediv (2 * w.sum + w.length) (2 * w.length)
  have hlo := Int.emod_nonneg (2 * w.sum + w.length) (Int.ne_of_gt hl)
  have hhi := Int.emod_lt_of_pos (2 * w.sum + w.length) hl
  rw [average]
  omega

/-! ## The average delivery (R4, R99, R116, R130) -/

/-- Nothing but the battery manager beside its power state, and the mail, differs. -/
def BatteryWorks (s t : State) : Prop :=
  t = { s with bat := { t.bat with power := s.bat.power }, mail := t.mail }

/-- Nothing but the actuator and energy unit, the battery manager and the mail differs. -/
def PowerWorks (s t : State) : Prop := t = { s with en := t.en, bat := t.bat, mail := t.mail }

namespace BatteryWorks

variable {s t u : State}

theorem refl (s : State) : BatteryWorks s s := rfl

theorem trans (h : BatteryWorks s t) (h' : BatteryWorks t u) : BatteryWorks s u := by
  unfold BatteryWorks at *
  calc
    u = { t with bat := { u.bat with power := t.bat.power }, mail := u.mail } := h'
    _ = { s with bat := { u.bat with power := s.bat.power }, mail := u.mail } := by rw [h]

theorem ite {c : Prop} [Decidable c] (h : BatteryWorks s t) (h' : BatteryWorks s u) :
    BatteryWorks s (if c then t else u) := by
  split
  · exact h
  · exact h'

theorem power (h : BatteryWorks s t) : t.bat.power = s.bat.power := by rw [h]

theorem powerWorks (h : BatteryWorks s t) : PowerWorks s t := by
  rw [BatteryWorks] at h
  rw [PowerWorks, h]

end BatteryWorks

namespace PowerWorks

variable {s t u : State}

theorem trans (h : PowerWorks s t) (h' : PowerWorks t u) : PowerWorks s u := by
  unfold PowerWorks at *
  calc
    u = { t with en := u.en, bat := u.bat, mail := u.mail } := h'
    _ = { s with en := u.en, bat := u.bat, mail := u.mail } := by rw [h]

end PowerWorks

theorem judgeGate_batteryWorks (s : State) : BatteryWorks s (judgeGate s) := by
  unfold judgeGate
  split <;> rfl

theorem computeTargets_batteryWorks (s : State) : BatteryWorks s (computeTargets s) := by
  unfold computeTargets
  split <;> rfl

theorem chargerBySupply_batteryWorks (s : State) : BatteryWorks s (chargerBySupply s) := rfl

theorem supplyMoves_batteryWorks (present : Bool) (s : State) : BatteryWorks s (supplyMoves present s) := by
  unfold supplyMoves
  repeat' split
  all_goals rfl

theorem abortTest_batteryWorks (cause : AbortCause) (s : State) : BatteryWorks s (abortTest cause s) := by
  have hreport : BatteryWorks s (reportTest (abortRecord cause s) (endTest s)) := rfl
  have hafter : ∀ t, BatteryWorks t (afterAbort cause t) := fun t => by
    unfold afterAbort
    split <;> rfl
  unfold abortTest
  split
  · exact (hreport.trans (.ite (.refl _) (chargerBySupply_batteryWorks _))).trans (hafter _)
  · rfl

theorem enterChargerFault_batteryWorks (s : State) : BatteryWorks s (enterChargerFault s) :=
  BatteryWorks.trans (by rfl) (abortTest_batteryWorks .chargerFault _)

theorem judgeTail_batteryWorks (i : Int) (s : State) : BatteryWorks s (judgeTail i s) := .ite rfl rfl

theorem judgeSag_batteryWorks (v float : Int) (s : State) : BatteryWorks s (judgeSag v float s) :=
  .ite rfl rfl

theorem judgeCharger_batteryWorks (s : State) : BatteryWorks s (judgeCharger s) := by
  refine .ite (.ite (chargerBySupply_batteryWorks s) rfl) (.ite (enterChargerFault_batteryWorks s) ?_)
  split
  · rfl
  · split
    · exact .ite rfl rfl
    · exact judgeTail_batteryWorks ..
    · exact judgeSag_batteryWorks ..
    all_goals rfl

/-- What the battery manager does at a delivery before the power state (R99). -/
theorem beforePower_batteryWorks (supplyBefore : Bool) (s : State) :
    BatteryWorks s (judgeGate (judgeCharger (computeTargets
      (if s.meas.supply = supplyBefore then s else judgeGate (supplyMoves s.meas.supply s))))) :=
  (((BatteryWorks.ite (.refl s) ((supplyMoves_batteryWorks ..).trans (judgeGate_batteryWorks _))).trans
    (computeTargets_batteryWorks _)).trans (judgeCharger_batteryWorks _)).trans (judgeGate_batteryWorks _)

theorem judgeArbiter_powerWorks (s : State) : PowerWorks s (judgeArbiter s) := by
  have h := judgeArbiter_eq s
  generalize judgeArbiter s = t at h ⊢
  rw [PowerWorks, h]

theorem setBankCharger_powerWorks (c : BankCharger) (s : State) : PowerWorks s (setBankCharger c s) := by
  rw [setBankCharger_eq]
  rfl

theorem energyPowerState_powerWorks (new : PowerState) (s : State) :
    PowerWorks s (energyPowerState new s) := by
  unfold energyPowerState
  split
  · exact ((setBankCharger_powerWorks .held s).trans (by rfl)).trans (judgeArbiter_powerWorks _)
  · split
    · exact (setBankCharger_powerWorks ..).trans (judgeArbiter_powerWorks _)
    · exact judgeArbiter_powerWorks s

theorem setCabinetSwitch_batteryWorks (s : State) : BatteryWorks s (setCabinetSwitch s) := by
  rw [setCabinetSwitch_eq]
  rfl

theorem handPermission_batteryWorks (old : Option PowerState) (new : PowerState) (s : State) :
    BatteryWorks s (handPermission old new s) := .ite rfl rfl

theorem raise_batteryWorks (source : RecordSource) (body : EventBody) (s : State) :
    BatteryWorks s (raise source body s) := rfl

/-- The state in which the battery manager has set the power state and told nobody yet (R115, R118). -/
def powerEntered (new : PowerState) (s : State) : State :=
  { s with bat := { s.bat with
      power := some new, fall := 0, rise := 0, window := if new = .holdover then none else s.bat.window } }

theorem setPowerState_powerWorks (new : PowerState) (s : State) :
    PowerWorks s (setPowerState new s) ∧ (setPowerState new s).bat.power = some new := by
  have hswitch := setCabinetSwitch_batteryWorks (powerEntered new s)
  have henergy := hswitch.powerWorks.trans (energyPowerState_powerWorks new _)
  have hpower : (energyPowerState new (setCabinetSwitch (powerEntered new s))).bat.power = some new := by
    have hbat : (energyPowerState new (setCabinetSwitch (powerEntered new s))).bat
        = (setCabinetSwitch (powerEntered new s)).bat := by simp
    rw [hbat]
    exact hswitch.power
  have hrest : BatteryWorks (energyPowerState new (setCabinetSwitch (powerEntered new s)))
      (setPowerState new s) :=
    (((handPermission_batteryWorks s.bat.power new _).trans (raise_batteryWorks ..)).trans
      (.ite (abortTest_batteryWorks ..) (.refl _))).trans (judgeGate_batteryWorks _)
  exact ⟨(PowerWorks.trans (t := powerEntered new s) rfl henergy).trans hrest.powerWorks,
    hrest.power.trans hpower⟩

theorem judgePower_powerWorks (p : PowerState) (s : State) : PowerWorks s (judgePower p s) := by
  unfold judgePower
  dsimp only
  split
  · exact (setPowerState_powerWorks ..).1
  · split
    · exact (setPowerState_powerWorks ..).1
    · rfl

/-- R130: the completed start, from the power state just set. -/
theorem completeStart_eq (s : State) :
    completeStart s = { s with
      cab := { s.cab with flags := { s.cab.flags with restarted := true }, started := true },
      rad := { s.rad with
        request := true, permitted := modemPermitted s.bat.power, refillTimer := some (s.elapsed + 1000),
        statusTimer := if s.cfg.radio.statusPeriod = 0 then none
          else some (s.elapsed + s.cfg.radio.statusPeriod * 1000),
        readyWait := if modemPermitted s.bat.power then some (s.elapsed + 5000) else none } } := rfl

/-- R116: the first power state permits the modem when it is RUN, from 23.00 V on. -/
theorem modemPermitted_first (v : Int) :
    modemPermitted (some (firstPowerState v)) = decide (2300 ≤ v) := by
  unfold modemPermitted firstPowerState
  by_cases h : 2300 ≤ v
  · simp [h]
  · simp only [h, if_false]
    split
    · rfl
    · split <;> rfl

/-- The first delivery sets the power state from its average and completes the start. -/
theorem powerAtDelivery_first {s : State} (h : s.bat.power = none) :
    powerAtDelivery s
      = completeStart (setPowerState (firstPowerState s.meas.averages.vBatt) s) := by
  simp [powerAtDelivery, h]

theorem powerAtDelivery_later {s : State} {p : PowerState} (h : s.bat.power = some p) :
    powerAtDelivery s = judgePower p s := by
  simp [powerAtDelivery, h]

/-- A delivery after the start stays within the actuator and energy unit, the battery manager and the
mail. -/
theorem takeDelivery_later {s : State} (supplyBefore : Bool) (h : s.bat.power ≠ none) :
    PowerWorks s (takeDelivery supplyBefore s) := by
  obtain ⟨p, hp⟩ := Option.ne_none_iff_exists'.1 h
  have hb := beforePower_batteryWorks supplyBefore s
  rw [takeDelivery, powerAtDelivery_later (hb.power.trans hp)]
  exact hb.powerWorks.trans (judgePower_powerWorks p _)

/-- The first delivery sets the power state from its average within those blocks, and then completes the
start. -/
theorem takeDelivery_first {s : State} (supplyBefore : Bool) (h : s.bat.power = none) :
    ∃ t, takeDelivery supplyBefore s = completeStart t ∧ PowerWorks s t
      ∧ t.bat.power = some (firstPowerState s.meas.averages.vBatt) := by
  have hb := beforePower_batteryWorks supplyBefore s
  rw [takeDelivery, powerAtDelivery_first (hb.power.trans h)]
  generalize judgeGate (judgeCharger _) = u at hb ⊢
  have hm : u.meas = s.meas := by rw [hb]
  rw [hm]
  obtain ⟨hw, hp⟩ := setPowerState_powerWorks (firstPowerState s.meas.averages.vBatt) u
  exact ⟨_, rfl, hb.powerWorks.trans hw, hp⟩

theorem exec_averageDelivery {s : State} (hp : s.power = .running) (hn : s.meas.samples = 10) :
    exec .averageDelivery s = .next (takeDelivery s.meas.supply (deliverAverages s)) := by
  rw [exec, execAverageDelivery, whenRunning_running hp, if_pos hn]

/-- Settles O6: a delivery by whether the power state has been set before. -/
theorem averagesAreDelivered : Obligations.AveragesAreDelivered := by
  refine ⟨fun w => average_nearest, fun s hp hn => ⟨_, exec_averageDelivery hp hn, ?_⟩⟩
  by_cases hb : s.bat.power = none
  · obtain ⟨t, he, hw, hpower⟩ := takeDelivery_first s.meas.supply (s := deliverAverages s) hb
    rw [he, completeStart_eq, hpower, modemPermitted_first]
    rw [PowerWorks] at hw
    refine ⟨by rw [hw]; rfl, fun _ => ⟨rfl, rfl, rfl, ?_⟩, fun h => absurd hb h, ?_⟩
    · rw [hw]
      simp only [decide_eq_true_eq]
      rfl
    · rw [hw]
      rfl
  · have hw := takeDelivery_later s.meas.supply (s := deliverAverages s) hb
    rw [PowerWorks] at hw
    generalize takeDelivery _ _ = t at hw ⊢
    rw [hw]
    exact ⟨rfl, fun h => absurd h hb, fun _ => ⟨rfl, rfl⟩, rfl⟩

end Sys2Proof.Machine
end

section
/-! PROOFS. Field inputs, pole states and operation counters (R7 to R10). -/

namespace Sys2Proof.Machine

/-! ## A request for a rewrite (R121) -/

/-- A request for a rewrite reaches no further than the start of a write. -/
theorem requestRewrite_eq (s : State) :
    requestRewrite s = { s with
      ret := (requestRewrite s).ret,
      tags := { s.tags with table := (requestRewrite s).tags.table },
      meas := { s.meas with owed := (requestRewrite s).meas.owed },
      en := { s.en with owed := (requestRewrite s).en.owed } } := by
  unfold requestRewrite
  split <;> rfl

/-! ## Debounced inputs (R7) -/

/-- The level of one input after one has changed. -/
@[simp] theorem inputLevel_setInput (i : Inputs) (f g : FieldInput) (level : Bool) :
    inputLevel (setInput i f level) g = if g = f then level else inputLevel i g := by
  cases f <;> cases g <;> simp [inputLevel, setInput]

theorem inputChanged_contact {f : FieldInput} {p : Pole}
    (h : f = .contactA p ∨ f = .contactB p) (level : Bool) (s : State) :
    inputChanged f level s = derivePole p s := by
  rcases h with rfl | rfl <;> rfl

/-- The pole state that two contacts give when they disagree, by the first of them. -/
def shownBy (contactA : Bool) : PoleState := if contactA = true then .closed else .opened

theorem contactState_agree {a b : Bool} (h : a = b) : contactState a b = none := by
  subst h
  cases a <;> rfl

theorem contactState_disagree {a b : Bool} (h : a ≠ b) : contactState a b = some (shownBy a) := by
  cases a <;> cases b <;> simp_all [contactState, shownBy]

section
variable {f : FieldInput} {level : Bool} {stood : Nat} {s : State}

theorem exec_debouncedInputChange_ignored (hp : s.power = .running)
    (h : stood < 10 ∨ s.meas.settled = false ∨ inputLevel s.meas.inputs f = level) :
    exec (.debouncedInputChange f level stood) s = .next s := by
  rw [exec, execDebouncedInputChange, whenRunning_running hp, if_neg]
  rcases h with h | h | h
  · simp [Nat.not_le.2 h]
  · simp [h]
  · simp [h]

theorem exec_debouncedInputChange_taken (hp : s.power = .running) (hl : 10 ≤ stood)
    (hs : s.meas.settled = true) (hf : inputLevel s.meas.inputs f ≠ level) :
    exec (.debouncedInputChange f level stood) s = .next (inputChanged f level
      { s with meas := { s.meas with inputs := setInput s.meas.inputs f level } }) := by
  rw [exec, execDebouncedInputChange, whenRunning_running hp, if_pos (by simp [hs, hl, hf])]

end

/-! ## Pole states and counters (R8, R10) -/

/-- The pole shows a definite state, which becomes its last one and is handed to both consumers. -/
def showDefinite (p : Pole) (new : PoleState) (s : State) : State :=
  { s with
    meas := { s.meas with
      pole := s.meas.pole.set p new, lastDefinite := s.meas.lastDefinite.set p (some new) },
    mail := { s.mail with
      seqPoles := s.mail.seqPoles ++ [(p, new)], enPoles := s.mail.enPoles ++ [(p, new)] } }

section
variable {p : Pole} {s : State}

theorem changePole_same {new : PoleState} (h : s.meas.pole.get p = new) : changePole p new s = s := by
  simp [changePole, h]

theorem changePole_closed (h : s.meas.pole.get p ≠ .closed) :
    changePole p .closed s = showDefinite p .closed s := by
  rw [changePole, if_neg h]
  rfl

theorem changePole_opened_counted (h : s.meas.pole.get p ≠ .opened)
    (hl : s.meas.lastDefinite.get p = some .closed) :
    changePole p .opened s = countOpening p (showDefinite p .opened s) := by
  rw [changePole, if_neg h]
  exact if_pos hl

theorem changePole_opened_uncounted (h : s.meas.pole.get p ≠ .opened)
    (hl : s.meas.lastDefinite.get p ≠ some .closed) :
    changePole p .opened s = showDefinite p .opened s := by
  rw [changePole, if_neg h]
  exact if_neg hl

theorem set_get_self {α : Type} (t : Tri α) (p : Pole) : t.set p (t.get p) = t := by
  cases p <;> rfl

/-- A pole that becomes UNKNOWN keeps its last definite state and its count. -/
theorem changePole_unknown (p : Pole) (s : State) :
    changePole p .unknown s = { s with
      meas := { s.meas with pole := s.meas.pole.set p .unknown },
      mail := { s.mail with
        seqPoles := s.mail.seqPoles ++ (if s.meas.pole.get p = .unknown then [] else [(p, .unknown)]),
        enPoles := s.mail.enPoles ++ (if s.meas.pole.get p = .unknown then [] else [(p, .unknown)]) } } := by
  by_cases h : s.meas.pole.get p = .unknown
  · rw [changePole_same h]
    simp [← h, set_get_self]
  · rw [changePole, if_neg h]
    simp [counterFollows, h]

end

/-- R10: the counter goes up, held at 999,999, COUNTER_ALARM is raised as it crosses the threshold in force,
and a rewrite is requested. -/
theorem countOpening_eq (p : Pole) (s : State) :
    countOpening p s = requestRewrite { s with
      meas := { s.meas with
        counters := s.meas.counters.set p (min 999999 (s.meas.counters.get p + 1)) },
      mail := { s.mail with raised := s.mail.raised ++
        if s.cfg.prot.maintenance ≠ 0 ∧ s.meas.counters.get p < s.cfg.prot.maintenance
            ∧ s.cfg.prot.maintenance ≤ min 999999 (s.meas.counters.get p + 1) then
          [(.measurement, .counterAlarm p (min 999999 (s.meas.counters.get p + 1)) s.cfg.prot.maintenance)]
        else [] } } := by
  have hc : crossesThreshold (s.meas.counters.get p) (min 999999 (s.meas.counters.get p + 1))
        s.cfg.prot.maintenance = true ↔
      s.cfg.prot.maintenance ≠ 0 ∧ s.meas.counters.get p < s.cfg.prot.maintenance
        ∧ s.cfg.prot.maintenance ≤ min 999999 (s.meas.counters.get p + 1) := by
    simp [crossesThreshold, and_assoc]
  unfold countOpening counterMax
  dsimp only
  congr 1
  split
  · next h => rw [if_pos (hc.1 h)]; rfl
  · next h => rw [if_neg (mt hc.2 h)]; simp

/-- A change of pole state sets the pole, and reaches beside it no further than the last definite state,
the counters, the mail and what a request for a rewrite reaches. -/
theorem changePole_definite (p : Pole) {new : PoleState} (h : new ≠ .unknown) (s : State) :
    changePole p new s = { s with
      meas := { s.meas with
        pole := s.meas.pole.set p new, lastDefinite := (changePole p new s).meas.lastDefinite,
        counters := (changePole p new s).meas.counters, owed := (changePole p new s).meas.owed },
      mail := (changePole p new s).mail, ret := (changePole p new s).ret,
      tags := (changePole p new s).tags, en := (changePole p new s).en } := by
  by_cases hs : s.meas.pole.get p = new
  · rw [changePole_same hs, ← hs, set_get_self]
  · cases new with
    | unknown => exact absurd rfl h
    | closed =>
      rw [changePole_closed hs]
      rfl
    | opened =>
      by_cases hl : s.meas.lastDefinite.get p = some .closed
      · rw [changePole_opened_counted hs hl, countOpening_eq, requestRewrite_eq]
        rfl
      · rw [changePole_opened_uncounted hs hl]
        rfl

/-- Contacts that agree start the agreement timer with 200 ms and keep the pole state (R8). -/
theorem derivePole_agree {p : Pole} {s : State}
    (h : s.meas.inputs.contactA.get p = s.meas.inputs.contactB.get p) :
    derivePole p s
      = { s with meas := { s.meas with agree := s.meas.agree.set p (some (s.elapsed + 200)) } } := by
  rw [derivePole, contactState_agree h]

/-- Contacts that disagree stop the agreement timer and give CLOSED or OPEN at once (R8). -/
theorem derivePole_disagree {p : Pole} {s : State}
    (h : s.meas.inputs.contactA.get p ≠ s.meas.inputs.contactB.get p) :
    derivePole p s = changePole p (shownBy (s.meas.inputs.contactA.get p))
      { s with meas := { s.meas with agree := s.meas.agree.set p none } } := by
  rw [derivePole, contactState_disagree h]

theorem shownBy_definite (a : Bool) : shownBy a ≠ .unknown := by cases a <;> decide

/-- A changed input has its new level, and the others keep theirs. -/
theorem inputChanged_inputs (f : FieldInput) (level : Bool) (s : State) :
    (inputChanged f level s).meas.inputs = s.meas.inputs := by
  have hderive : ∀ p, (derivePole p s).meas.inputs = s.meas.inputs := fun p => by
    by_cases h : s.meas.inputs.contactA.get p = s.meas.inputs.contactB.get p
    · rw [derivePole_agree h]
    · rw [derivePole_disagree h, changePole_definite p (shownBy_definite _)]
  cases f with
  | contactA p => exact hderive p
  | contactB p => exact hderive p
  | lever => rfl
  | selector => rfl

/-! ## The agreement timer (R8) -/

theorem exec_poleUnknown_due {p : Pole} {d : Nat} {s : State} (hp : s.power = .running)
    (hd : s.meas.agree.get p = some d) (he : d ≤ s.elapsed) :
    exec (.poleUnknown p) s = .next (raise .measurement (.poleUnknown p (s.meas.inputs.contactA.get p))
      (changePole p .unknown { s with meas := { s.meas with agree := s.meas.agree.set p none } })) := by
  rw [exec, execPoleUnknown, whenRunning_running hp, if_pos (by simp [hd, he])]

theorem exec_poleUnknown_early {p : Pole} {d : Nat} {s : State} (hp : s.power = .running)
    (hd : s.meas.agree.get p = some d) (he : s.elapsed < d) : exec (.poleUnknown p) s = .next s := by
  rw [exec, execPoleUnknown, whenRunning_running hp, if_neg (by simp [hd, Nat.not_le.2 he])]

/-! ## The inputs settle (R7, R9, R129) -/

/-- Nothing but the sequence controller, the mail and the draws of free values differs, and every record
raised before stays raised. -/
def SequenceWorks (s t : State) : Prop :=
  t = { s with seq := t.seq, mail := t.mail, free := t.free } ∧ s.mail.raised <+: t.mail.raised

namespace SequenceWorks

variable {s t u : State}

theorem refl (s : State) : SequenceWorks s s := ⟨rfl, List.prefix_rfl⟩

theorem trans (h : SequenceWorks s t) (h' : SequenceWorks t u) : SequenceWorks s u := by
  obtain ⟨h, hr⟩ := h
  obtain ⟨h', hr'⟩ := h'
  refine ⟨?_, hr.trans hr'⟩
  calc
    u = { t with seq := u.seq, mail := u.mail, free := u.free } := h'
    _ = { s with seq := u.seq, mail := u.mail, free := u.free } := by rw [h]

theorem ite {c : Prop} [Decidable c] (h : SequenceWorks s t) (h' : SequenceWorks s u) :
    SequenceWorks s (if c then t else u) := by
  split
  · exact h
  · exact h'

/-- An update of the sequence controller's own state. -/
theorem seq (q : Sequence) (s : State) : SequenceWorks s { s with seq := q } := ⟨rfl, List.prefix_rfl⟩

end SequenceWorks

theorem raise_sequenceWorks (source : RecordSource) (body : EventBody) (s : State) :
    SequenceWorks s (raise source body s) := ⟨rfl, List.prefix_append ..⟩

theorem post_sequenceWorks (m : EnergyMsg) (s : State) : SequenceWorks s (post m s) := ⟨rfl, List.prefix_rfl⟩

theorem postTrip_sequenceWorks (ps : PoleSet) (o : StrokeOrigin) (s : State) :
    SequenceWorks s (postTrip ps o s) := .ite (.refl s) (post_sequenceWorks ..)

theorem withdraw_sequenceWorks (k : StrokeKind) (ps : PoleSet) (s : State) :
    SequenceWorks s (withdraw k ps s) := .ite (.refl s) (post_sequenceWorks ..)

theorem agreed_sequenceWorks {α : Type} [DecidableEq α] (l : List α) (s : State) :
    SequenceWorks s (agreed l s).2 := by
  unfold agreed
  split
  · exact .refl s
  · exact ⟨rfl, List.prefix_rfl⟩

theorem raiseLockout_sequenceWorks (c : LockoutCause) (sources : List CmdSource) (ps : PoleSet) (s : State) :
    SequenceWorks s (raiseLockout c sources ps s) :=
  ((agreed_sequenceWorks _ s).trans (agreed_sequenceWorks sources _)).trans (raise_sequenceWorks ..)

theorem raiseLockouts_sequenceWorks (want : Tri (Option LockEntry)) (ps : PoleSet) (l : List LockoutCause)
    (s : State) : SequenceWorks s (raiseLockouts want ps l s) := by
  induction l generalizing s with
  | nil => exact .refl s
  | cons c l ih => exact (raiseLockout_sequenceWorks ..).trans (ih _)

theorem lockRecords_sequenceWorks (want : Tri (Option LockEntry)) (s : State) :
    SequenceWorks s (lockRecords want s) :=
  ((SequenceWorks.seq _ s).trans (withdraw_sequenceWorks ..)).trans (raiseLockouts_sequenceWorks ..)

theorem spreadThreePole_sequenceWorks (s : State) : SequenceWorks s (spreadThreePole s) :=
  ((lockRecords_sequenceWorks _ s).trans (.seq _ _)).trans (postTrip_sequenceWorks ..)

theorem setUpProtection_sequenceWorks (s : State) : SequenceWorks s (setUpProtection s) :=
  (((SequenceWorks.seq _ s).trans (.seq _ _)).trans
    (.ite (.refl _) (((raiseLockout_sequenceWorks ..).trans (postTrip_sequenceWorks ..)).trans
      (spreadThreePole_sequenceWorks _)))).trans ⟨rfl, List.prefix_rfl⟩

theorem judgeSetUp_sequenceWorks (s : State) : SequenceWorks s (judgeSetUp s) :=
  .ite (.trans (t := { s with mail := { s.mail with ocSets := [] } }) ⟨rfl, List.prefix_rfl⟩
    (setUpProtection_sequenceWorks _)) (.refl s)

theorem reportStartPole_sequenceWorks (l : InputLevels) (p : Pole) (s : State) :
    SequenceWorks s (reportStartPole l p s) := by
  unfold reportStartPole
  split
  · exact .refl s
  · exact raise_sequenceWorks ..

/-- R9: a pole whose contacts agree at start is reported. -/
theorem reportStartPole_raised {l : InputLevels} {p : Pole} (h : l.contactA.get p = l.contactB.get p)
    (s : State) :
    (.measurement, .poleUnknown p (l.contactA.get p)) ∈ (reportStartPole l p s).mail.raised := by
  rw [reportStartPole, contactState_agree h]
  simp [raise]

/-- The state as the raw levels give it, before the start's reports (R7, R9, R10). -/
def withLevels (l : InputLevels) (s : State) : State :=
  { s with
    meas := { s.meas with
      settled := true, inputs := rawInputs l, pole := Tri.of (startPole l),
      lastDefinite := Tri.of fun p => contactState (l.contactA.get p) (l.contactB.get p) },
    en := { s.en with view := Tri.of (startPole l) } }

/-- The reports of the start follow the poles, and protection is judged behind them; each UNKNOWN pole has
been reported. -/
theorem settleInputs_sequenceWorks (l : InputLevels) (s : State) :
    SequenceWorks (withLevels l s) (settleInputs l s)
      ∧ ∀ p, l.contactA.get p = l.contactB.get p →
          (.measurement, .poleUnknown p (l.contactA.get p)) ∈ (settleInputs l s).mail.raised := by
  have hc := fun t => (reportStartPole_sequenceWorks l .c t).trans (judgeSetUp_sequenceWorks _)
  have hb := fun t => (reportStartPole_sequenceWorks l .b t).trans (hc _)
  refine ⟨(reportStartPole_sequenceWorks l .a _).trans (hb _), fun p h => ?_⟩
  cases p with
  | a => exact (hb _).2.subset (reportStartPole_raised h _)
  | b => exact (hc _).2.subset (reportStartPole_raised h _)
  | c => exact (judgeSetUp_sequenceWorks _).2.subset (reportStartPole_raised h _)

theorem startPole_eq (l : InputLevels) (p : Pole) :
    startPole l p = if l.contactA.get p = l.contactB.get p then .unknown
      else if l.contactA.get p then .closed else .opened := by
  unfold startPole
  split
  · next h => rw [contactState_agree h]; rfl
  · next h => rw [contactState_disagree h]; rfl

theorem startDefinite_eq (l : InputLevels) (p : Pole) :
    contactState (l.contactA.get p) (l.contactB.get p) =
      if l.contactA.get p = l.contactB.get p then none
      else if l.contactA.get p then some .closed else some .opened := by
  split
  · next h => exact contactState_agree h
  · next h => rw [contactState_disagree h, shownBy]; split <;> rfl

theorem exec_inputsSettled {l : InputLevels} {s : State} (hp : s.power = .running) (he : 10 ≤ s.elapsed)
    (hs : s.meas.settled = false) : exec (.inputsSettled l) s = .next (settleInputs l s) := by
  rw [exec, execInputsSettled, whenRunning_running hp, if_pos (by simp [he, hs])]

/-! ## The statement -/

/-- The state in which a contact of a pole has changed so that the two disagree, before the pole follows. -/
def contactsParted (p : Pole) (inputs : Inputs) (s : State) : State :=
  { s with meas := { s.meas with inputs := inputs, agree := s.meas.agree.set p none } }

section
variable {f : FieldInput} {level : Bool} {stood : Nat} {p : Pole} {s : State}

/-- R8: a debounced contact change that makes the contacts of its pole disagree. -/
theorem exec_contacts_part (hp : s.power = .running) (hl : 10 ≤ stood) (hs : s.meas.settled = true)
    (hf : inputLevel s.meas.inputs f ≠ level) (hc : f = .contactA p ∨ f = .contactB p)
    (hd : (setInput s.meas.inputs f level).contactA.get p
      ≠ (setInput s.meas.inputs f level).contactB.get p) :
    exec (.debouncedInputChange f level stood) s = .next
      (changePole p (shownBy ((setInput s.meas.inputs f level).contactA.get p))
        (contactsParted p (setInput s.meas.inputs f level) s)) := by
  rw [exec_debouncedInputChange_taken hp hl hs hf, inputChanged_contact hc, derivePole_disagree hd]
  rfl

/-- R10: the opening of a pole whose last definite state is CLOSED is counted. -/
theorem changePole_counts (h : s.meas.pole.get p ≠ .opened) (hl : s.meas.lastDefinite.get p = some .closed) :
    let t := changePole p .opened s
    t.meas.lastDefinite = s.meas.lastDefinite.set p (some .opened)
      ∧ t.mail = { (showDefinite p .opened s).mail with raised := t.mail.raised }
      ∧ t.meas.counters = s.meas.counters.set p (min 999999 (s.meas.counters.get p + 1))
      ∧ t.mail.raised = s.mail.raised ++
          (if s.cfg.prot.maintenance ≠ 0 ∧ s.meas.counters.get p < s.cfg.prot.maintenance
              ∧ s.cfg.prot.maintenance ≤ min 999999 (s.meas.counters.get p + 1) then
            [(.measurement, .counterAlarm p (min 999999 (s.meas.counters.get p + 1))
              s.cfg.prot.maintenance)]
          else [])
      ∧ t.ret.writing.isSome = true := by
  intro t
  have ht : t = countOpening p (showDefinite p .opened s) := changePole_opened_counted h hl
  rw [countOpening_eq] at ht
  have hw : t.ret.writing.isSome = true := ht ▸ requestRewrite_writes _
  rw [requestRewrite_eq] at ht
  clear_value t
  subst ht
  exact ⟨rfl, rfl, rfl, rfl, hw⟩

end

/-- Settles O7: each debounced change by its input, the openings by the last definite state, and the
settling by the pole states that the raw levels give. -/
theorem fieldInputsAndPoleStatesChange : Obligations.FieldInputsAndPoleStatesChange := by
  refine ⟨fun f level stood s hp =>
    ⟨exec_debouncedInputChange_ignored hp, fun hl hs hf => ?_⟩, ?_, ?_, ?_, ?_⟩
  · refine ⟨_, exec_debouncedInputChange_taken hp hl hs hf, ?_⟩
    rw [inputChanged_inputs]
    refine ⟨by simp, fun g hg => by simp [hg], ?_, ?_, fun p hc => ⟨fun h => ?_, fun h => ?_⟩⟩
    · rintro rfl
      rfl
    · rintro rfl
      rfl
    · rw [inputChanged_contact hc, derivePole_agree h]
    · rw [inputChanged_contact hc, derivePole_disagree h, changePole_definite p (shownBy_definite _)]
      exact ⟨rfl, rfl, rfl⟩
  · intro f level stood p s hp hl hs hf hc ha hb hpole
    dsimp only
    have hexec := exec_contacts_part hp hl hs hf hc (by simp [ha, hb])
    rw [ha] at hexec
    by_cases hlast : s.meas.lastDefinite.get p = some .closed
    · obtain ⟨hld, hmail, hcount, hraised, hwrites⟩ := changePole_counts
        (s := contactsParted p (setInput s.meas.inputs f level) s) hpole hlast
      exact ⟨_, hexec, hld, congrArg Mail.seqPoles hmail, congrArg Mail.enPoles hmail,
        fun _ => ⟨hcount, hraised, hwrites⟩, fun h => absurd hlast h⟩
    · refine ⟨_, hexec.trans (congrArg _ (changePole_opened_uncounted hpole hlast)), rfl, rfl, rfl,
        fun h => absurd h hlast, fun _ => ⟨rfl, rfl, rfl⟩⟩
  · intro f level stood p s hp hl hs hf hc inputs shown hd
    have hexec : exec (.debouncedInputChange f level stood) s
        = .next (changePole p shown (contactsParted p inputs s)) := exec_contacts_part hp hl hs hf hc hd
    refine ⟨fun hpole hshown => ?_, fun hpole => ?_⟩
    · rw [hexec, hshown, changePole_closed (s := contactsParted p inputs s) hpole]
      rfl
    · rw [hexec, changePole_same (s := contactsParted p inputs s) hpole]
      rfl
  · intro p d s hp hd
    refine ⟨fun he => ?_, exec_poleUnknown_early hp hd⟩
    rw [exec_poleUnknown_due hp hd he, changePole_unknown]
    rfl
  · intro l s hp he hs
    obtain ⟨⟨hw, -⟩, hraised⟩ := settleInputs_sequenceWorks l s
    refine ⟨_, exec_inputsSettled hp he hs, ?_⟩
    simp only [← startPole_eq, ← startDefinite_eq]
    generalize settleInputs l s = t at hw hraised ⊢
    refine ⟨by rw [hw]; rfl, hraised, by rw [hw]; rfl, by rw [hw]; rfl⟩

end Sys2Proof.Machine
end

section
/-! PROOFS. The retained store: a request for a rewrite and the end of a write (R87, R121 to R125). -/

namespace Sys2Proof.Machine

/-! ## The start of a write (R87, R121) -/

/-- A request for a rewrite that finds no write in hand starts one. -/
theorem requestRewrite_starts {s : State} (h : s.ret.writing = none) :
    requestRewrite s = { s with
      ret := { s.ret with
        writing := some (gatherContent s), rewrite := false, chip := { s.ret.chip with marker := false } },
      tags := { s.tags with table := s.tags.table.map TagEntry.markAtStart },
      meas := { s.meas with owed := s.meas.owed.map OwedWrite.cover },
      en := { s.en with owed := s.en.owed.map OwedWrite.cover } } :=
  requestRewrite_idle h

/-! ## The replies owed (R122, R11, R77) -/

/-- The reply of a completed write to a request. -/
def writeReply (fault : Bool) (o : OwedReply) : CabinetReply :=
  { kind := o.kind, tag := o.tag, code := if fault then .okNotRetained else .ok, content := .nothing }

/-- With no covered reply for the request that the cabinet link owes, none is given. -/
theorem answerOwed_abandoned (fault : Bool) {l : List OwedWrite} {s : State}
    (h : ∀ o, s.cab.owed = some o → ∀ w ∈ l.filter OwedWrite.covered, w.request ≠ o.request) :
    answerOwed fault l s = s := by
  induction l with
  | nil => rfl
  | cons w l ih =>
    have hl : answerOwed fault l s = s := ih fun o ho x hx =>
      h o ho x ((List.sublist_cons_self w l).filter _ |>.subset hx)
    rw [answerOwed]
    split
    · next hw => rw [answerCode, answer_abandoned fun o ho => (h o ho w (by simp [hw])).symm, hl]
    · exact hl

/-- The covered reply for the request that the cabinet link owes is given once. -/
theorem answerOwed_answers (fault : Bool) {l : List OwedWrite} {s : State} {o : OwedReply}
    (ho : s.cab.owed = some o) (h : ∃ w ∈ l.filter OwedWrite.covered, w.request = o.request) :
    answerOwed fault l s = { s with cab := { s.cab with
      owed := none, replies := s.cab.replies ++ [writeReply fault o] } } := by
  induction l with
  | nil => simp at h
  | cons w l ih =>
    rw [answerOwed]
    by_cases hw : w.covered = true ∧ w.request = o.request
    · rw [if_pos hw.1, answerCode, answer_owed ho hw.2.symm, answerOwed_abandoned]
      · rfl
      · simp
    · have hl : ∃ x ∈ l.filter OwedWrite.covered, x.request = o.request := by
        obtain ⟨x, hx, hr⟩ := h
        rw [List.mem_filter, List.mem_cons] at hx
        obtain ⟨rfl | hx, hc⟩ := hx
        · exact absurd ⟨hc, hr⟩ hw
        · exact ⟨x, List.mem_filter.2 ⟨hx, hc⟩, hr⟩
      split
      · next hc =>
        rw [answerCode, answer_abandoned, ih hl]
        intro o' ho' hr
        exact hw ⟨hc, by rw [← hr, Option.some.inj (ho.symm.trans ho')]⟩
      · exact ih hl

/-- What the replies owed leave of the reply that the cabinet link owes and of the transmit line. -/
theorem answerOwed_outcome (fault : Bool) (l : List OwedWrite) (s : State) :
    ∃ owed replies,
      answerOwed fault l s = { s with cab := { s.cab with owed := owed, replies := replies } }
        ∧ ∀ o, s.cab.owed = some o →
            ((∀ w ∈ l.filter OwedWrite.covered, w.request ≠ o.request) →
                owed = some o ∧ replies = s.cab.replies)
              ∧ ((∃ w ∈ l.filter OwedWrite.covered, w.request = o.request) →
                  owed = none ∧ replies = s.cab.replies ++ [writeReply fault o]) := by
  by_cases h : ∃ o, s.cab.owed = some o ∧ ∃ w ∈ l.filter OwedWrite.covered, w.request = o.request
  · obtain ⟨o, ho, hw⟩ := h
    refine ⟨_, _, answerOwed_answers fault ho hw, fun o' ho' => ⟨fun hn => ?_, fun _ => ?_⟩⟩
    · obtain ⟨w, hw, hr⟩ := hw
      exact absurd (by rw [hr, Option.some.inj (ho.symm.trans ho')]) (hn w hw)
    · exact ⟨rfl, by rw [Option.some.inj (ho.symm.trans ho')]⟩
  · have hnone : ∀ o, s.cab.owed = some o → ∀ w ∈ l.filter OwedWrite.covered, w.request ≠ o.request :=
      fun o ho w hw hr => h ⟨o, ho, w, hw, hr⟩
    exact ⟨s.cab.owed, s.cab.replies, answerOwed_abandoned fault hnone, fun o ho =>
      ⟨fun _ => ⟨ho, rfl⟩, fun ⟨w, hw, hr⟩ => absurd hr (hnone o ho w hw)⟩⟩

theorem answerOwed_append (fault : Bool) (l l' : List OwedWrite) (s : State) :
    answerOwed fault (l ++ l') s = answerOwed fault l' (answerOwed fault l s) := by
  induction l generalizing s with
  | nil => rfl
  | cons w l ih => exact ih _

/-- The owners of counters and FAILED marks answer the replies a write covers, and keep the others (R122). -/
theorem resolveOwners_eq (fault : Bool) (s : State) :
    resolveOwners fault s =
      (let u := completeTags fault s
       { answerOwed fault (u.meas.owed ++ u.en.owed) u with
         meas := { u.meas with owed := stillOwed u.meas.owed },
         en := { u.en with owed := stillOwed u.en.owed } }) := by
  simp [resolveOwners, answerOwed_append]

/-! ## The store at the end of a write (R122, R123) -/

/-- What the store makes of the outcome of a write. -/
theorem takeWriteOutcome_eq (fault : Bool) (content : RetainedContent) (s : State) :
    takeWriteOutcome fault content s = { s with
      ret := { s.ret with
        suspect := fault, rewrite := s.ret.rewrite || (fault && !s.ret.suspect),
        chip := if fault then faultedChip s else writtenImage content },
      cab := { s.cab with flags := { s.cab.flags with storeFault := s.cab.flags.storeFault || fault } },
      mail := { s.mail with raised := s.mail.raised ++
        if fault = true ∧ s.ret.suspect = false then [(.retainedStore, .storeFault none)] else [] },
      free := s.free + fault.toNat } := by
  cases fault with
  | false => simp [takeWriteOutcome]
  | true => cases h : s.ret.suspect <;> simp [takeWriteOutcome, h, flagStoreFault, setFlags, raise]

theorem leaveWriting_idle {s : State} (h : s.ret.rewrite = false) :
    leaveWriting s = { s with ret := { s.ret with writing := none } } := by
  simp [leaveWriting, h]

theorem leaveWriting_again {s : State} (h : s.ret.rewrite = true) :
    leaveWriting s = startRetainedWrite { s with ret := { s.ret with writing := none } } := by
  simp [leaveWriting, h]

theorem exec_retainedWriteComplete_idle {fault : Bool} {s : State} (hp : s.power = .running)
    (h : s.ret.writing = none) : exec (.retainedWriteComplete fault) s = .next s := by
  rw [exec, execRetainedWriteComplete, whenRunning_running hp, h]

theorem exec_retainedWriteComplete_ends {fault : Bool} {content : RetainedContent} {s : State}
    (hp : s.power = .running) (h : s.ret.writing = some content) :
    exec (.retainedWriteComplete fault) s
      = .next (leaveWriting (takeWriteOutcome fault content (resolveOwners fault s))) := by
  rw [exec, execRetainedWriteComplete, whenRunning_running hp, h]

/-! ## A table in which the write settles nothing -/

theorem reportPlacements_unmarked (fault : Bool) {l : List TagEntry} (h : ∀ e ∈ l, e.mark = .none)
    (s : State) : reportPlacements fault l s = s := by
  induction l with
  | nil => rfl
  | cons e l ih =>
    have he : reportEntry fault e s = s := by simp [reportEntry, h e (by simp)]
    rw [reportPlacements, he]
    exact ih fun x hx => h x (by simp [hx])

theorem afterWrite_unmarked (fault : Bool) {e : TagEntry} (h : e.mark = .none) :
    e.afterWrite fault = e := by simp [TagEntry.afterWrite, h]

/-- With no entry marked, the tag controller has nothing to report and nothing to drop. -/
theorem completeTags_unmarked (fault : Bool) {s : State} (h : ∀ e ∈ s.tags.table, e.mark = .none) :
    completeTags fault s = s := by
  have hleft : s.tags.table.filter TagEntry.isLeft = [] := by
    rw [List.filter_eq_nil_iff]
    intro e he
    simp [TagEntry.isLeft, h e he]
  have htable : s.tags.table.map (TagEntry.afterWrite fault) = s.tags.table := by
    rw [List.map_congr_left fun e he => afterWrite_unmarked fault (h e he), List.map_id']
  rw [completeTags, hleft, reportPlacements_unmarked fault h]
  simp [htable, dropEntries]

/-! ## What the reports of the tags reach (R88, R91) -/

/-- The reports of a completion leave the measurement unit, the actuator and energy unit, the write in hand
and the attention flags alone, and the cabinet link too where the reply it owes is none of those told. -/
def ReportsWithin (told : Nat → Prop) (s t : State) : Prop :=
  (t.meas = s.meas ∧ t.en = s.en ∧ t.ret.writing = s.ret.writing ∧ t.cab.flags = s.cab.flags)
    ∧ ((∀ o, s.cab.owed = some o → ¬ told o.request) → t.cab = s.cab)

namespace ReportsWithin

variable {told : Nat → Prop} {s t u : State}

theorem refl (s : State) : ReportsWithin told s s := ⟨⟨rfl, rfl, rfl, rfl⟩, fun _ => rfl⟩

theorem trans (h : ReportsWithin told s t) (h' : ReportsWithin told t u) : ReportsWithin told s u := by
  obtain ⟨⟨hm, he, hw, hf⟩, hc⟩ := h
  obtain ⟨⟨hm', he', hw', hf'⟩, hc'⟩ := h'
  refine ⟨⟨hm'.trans hm, he'.trans he, hw'.trans hw, hf'.trans hf⟩, fun hs => ?_⟩
  have hcab := hc hs
  exact (hc' (by rwa [hcab])).trans hcab

theorem ite {c : Prop} [Decidable c] (h : ReportsWithin told s t) (h' : ReportsWithin told s u) :
    ReportsWithin told s (if c then t else u) := by
  split
  · exact h
  · exact h'

theorem writing (h : ReportsWithin told s t) : t.ret.writing = s.ret.writing := h.1.2.2.1

/-- An update that reaches none of them. -/
theorem aside (hm : t.meas = s.meas) (he : t.en = s.en) (hw : t.ret.writing = s.ret.writing)
    (hc : t.cab = s.cab) : ReportsWithin told s t := ⟨⟨hm, he, hw, hc ▸ rfl⟩, fun _ => hc⟩

end ReportsWithin

/-- The judgement of the send order reaches the event queue, the radio controller and the mail. -/
theorem judgeSend_eq (s : State) :
    judgeSend s = { s with
      eq := (judgeSend s).eq, rad := (judgeSend s).rad, mail := (judgeSend s).mail } := by
  have hreports : sendReports s = { s with
      eq := (sendReports s).eq, rad := (sendReports s).rad, mail := (sendReports s).mail } := by
    unfold sendReports
    dsimp only
    split <;> rfl
  have hresult : ∀ r, sendResult r s = { s with
      eq := (sendResult r s).eq, rad := (sendResult r s).rad, mail := (sendResult r s).mail } := fun r => by
    unfold sendResult
    dsimp only
    split <;> rfl
  unfold judgeSend
  split
  · split
    · split
      · exact hreports
      · exact hresult _
    · exact hreports
  all_goals rfl

section
variable {told : Nat → Prop}

theorem raise_within (source : RecordSource) (body : EventBody) (s : State) :
    ReportsWithin told s (raise source body s) := .aside rfl rfl rfl rfl

theorem tags_within (x : Tags) (s : State) : ReportsWithin told s { s with tags := x } :=
  .aside rfl rfl rfl rfl

theorem handTag_within (sig : TagSignal) (s : State) : ReportsWithin told s (handTag sig s) :=
  .aside rfl rfl rfl rfl

theorem handArming_within (armed : Bool) (s : State) : ReportsWithin told s (handArming armed s) :=
  .aside rfl rfl rfl rfl

theorem answer_within {id : Nat} (h : told id) (code : ResultCode) (content : ReplyContent) (s : State) :
    ReportsWithin told s (answer id code content s) := by
  refine ⟨?_, fun hs => ?_⟩
  · unfold answer
    split
    · exact ⟨rfl, rfl, rfl, rfl⟩
    · split <;> exact ⟨rfl, rfl, rfl, rfl⟩
  · rw [answer_abandoned]
    rintro o ho rfl
    exact hs o ho h

theorem answerResult_within {id : Nat} (h : told id) (code : ResultCode) (s : State) :
    ReportsWithin told s (answerResult id code s) := by
  unfold answerResult
  split
  · exact answer_within h ..
  · exact answer_within h ..

theorem sendOptical_within (frame : Nat) (code : ResultCode) (lines : Option (List TagLine)) (s : State) :
    ReportsWithin told s (sendOptical frame code lines s) := by
  unfold sendOptical
  split
  · exact .refl s
  · exact .ite (.aside rfl rfl rfl rfl) (.refl s)

theorem putSlot_within (command number : Byte) (code : ResultCode) (tags : Option (Bool × List TagLine))
    (s : State) : ReportsWithin told s (putSlot command number code tags s) := by
  rw [putSlot_fresh, judgeSend_eq]
  exact .aside rfl rfl rfl rfl

/-- A reply reaches the cabinet link only where it goes to a cabinet request. -/
theorem replySource_within {dest : ReplyTo} (h : ∀ id, dest = .cabinet id → told id) (code : ResultCode)
    (s : State) : ReportsWithin told s (replySource dest code s) := by
  cases dest with
  | nobody => exact .refl s
  | cabinet id => exact answerResult_within (h id rfl) ..
  | optical frame => exact sendOptical_within ..
  | radio command number => exact putSlot_within ..

theorem reportEntry_within (fault : Bool) {e : TagEntry}
    (h : e.mark ≠ .none → e.reported = false → ∀ id, e.replyTo = .cabinet id → told id) (s : State) :
    ReportsWithin told s (reportEntry fault e s) := by
  have hreport : e.mark ≠ .none → e.reported = false → ∀ code retained,
      ReportsWithin told s (reportPlacement e code retained s) := fun hm hr _ _ =>
    (replySource_within (h hm hr) _ s).trans (raise_within ..)
  unfold reportEntry
  split
  · exact .refl s
  · next hr =>
    rw [Bool.not_eq_true] at hr
    split
    · next hm => exact hreport (by simp [hm]) hr ..
    · next hm => exact hreport (by simp [hm]) hr ..
    · exact .refl s

theorem reportPlacements_within (fault : Bool) {l : List TagEntry}
    (h : ∀ e ∈ l, e.mark ≠ .none → e.reported = false → ∀ id, e.replyTo = .cabinet id → told id)
    (s : State) : ReportsWithin told s (reportPlacements fault l s) := by
  induction l generalizing s with
  | nil => exact .refl s
  | cons e l ih =>
    exact (reportEntry_within fault (h e (by simp)) s).trans (ih (fun x hx => h x (by simp [hx])) _)

theorem reportRemoval_within (fault : Bool) {e : TagEntry}
    (h : ∀ r, e.removal = some r → ∀ id, r.replyTo = .cabinet id → told id) (s : State) :
    ReportsWithin told s (reportRemoval fault e s) := by
  unfold reportRemoval
  split
  · exact .refl s
  · next r hr => exact (replySource_within (h r hr) _ s).trans (raise_within ..)

theorem dropEntry_within (fault : Bool) {e : TagEntry}
    (h : ∀ r, e.removal = some r → ∀ id, r.replyTo = .cabinet id → told id) (s : State) :
    ReportsWithin told s (dropEntry fault e s) :=
  (((tags_within _ s).trans (handTag_within ..)).trans
    (.ite (handArming_within ..) (.refl _))).trans (reportRemoval_within fault h _)

theorem dropEntries_within (fault : Bool) {l : List TagEntry}
    (h : ∀ e ∈ l, ∀ r, e.removal = some r → ∀ id, r.replyTo = .cabinet id → told id) (s : State) :
    ReportsWithin told s (dropEntries fault l s) := by
  induction l generalizing s with
  | nil => exact .refl s
  | cons e l ih =>
    exact (dropEntry_within fault (h e (by simp)) s).trans (ih (fun x hx => h x (by simp [hx])) _)

/-- While a write is in hand, a request for another only sets rewrite-pending. -/
theorem requestRewrite_within {s : State} (h : s.ret.writing.isSome = true) :
    ReportsWithin told s (requestRewrite s) := by
  rw [requestRewrite_writing h]
  exact .aside rfl rfl rfl rfl

theorem fillPendingHold_within {s : State} (h : s.ret.writing.isSome = true) :
    ReportsWithin told s (fillPendingHold s) := by
  have haccept : ReportsWithin told s (acceptPlacement .internal .systemHold 0 .nobody s) :=
    .trans (.aside rfl rfl rfl rfl) (requestRewrite_within (told := told) h)
  exact .ite ((haccept.trans (.aside rfl rfl rfl rfl)).trans (handTag_within ..)) (.refl s)

end

/-- The requests that the tag controller reports to at a completion (R88, R92). -/
def toldByTags (s : State) (request : Nat) : Prop :=
  ∃ e ∈ s.tags.table,
    (e.mark ≠ .none ∧ e.reported = false ∧ e.replyTo = .cabinet request)
      ∨ (e.mark = .left ∧ ∃ r, e.removal = some r ∧ r.replyTo = .cabinet request)

theorem completeTags_within (fault : Bool) {s : State} (h : s.ret.writing.isSome = true) :
    ReportsWithin (toldByTags s) s (completeTags fault s) := by
  have hplaced : ReportsWithin (toldByTags s) s (reportPlacements fault s.tags.table s) :=
    reportPlacements_within fault (fun e he hm hr id hid => ⟨e, he, .inl ⟨hm, hr, hid⟩⟩) s
  have hdropped := (hplaced.trans (tags_within { (reportPlacements fault s.tags.table s).tags with
      table := (reportPlacements fault s.tags.table s).tags.table.map (TagEntry.afterWrite fault) } _)).trans
    (dropEntries_within fault (l := s.tags.table.filter TagEntry.isLeft)
      (fun e he r hr id hid => by
        obtain ⟨hmem, hleft⟩ := List.mem_filter.1 he
        exact ⟨e, hmem, .inr ⟨of_decide_eq_true hleft, r, hr, hid⟩⟩) _)
  exact .ite hdropped (hdropped.trans (fillPendingHold_within (by rw [hdropped.writing, h])))

/-! ## The statement -/

/-- The owners' resolution of a write: the tags' reports, then the replies owed for covered changes. -/
theorem resolveOwners_outcome (fault : Bool) {s u : State} (hu : completeTags fault s = u) :
    ∃ owed replies,
      resolveOwners fault s = { u with
          cab := { u.cab with owed := owed, replies := replies },
          meas := { u.meas with owed := stillOwed u.meas.owed },
          en := { u.en with owed := stillOwed u.en.owed } }
        ∧ ∀ o, u.cab.owed = some o →
            ((∀ w ∈ (u.meas.owed ++ u.en.owed).filter OwedWrite.covered, w.request ≠ o.request) →
                owed = some o ∧ replies = u.cab.replies)
              ∧ ((∃ w ∈ (u.meas.owed ++ u.en.owed).filter OwedWrite.covered, w.request = o.request) →
                  owed = none ∧ replies = u.cab.replies ++ [writeReply fault o]) := by
  obtain ⟨owed, replies, he, ho⟩ := answerOwed_outcome fault (u.meas.owed ++ u.en.owed) u
  refine ⟨owed, replies, ?_, ho⟩
  rw [resolveOwners_eq, hu]
  dsimp only
  rw [he]

/-- The replies still owed are owed for changes that the next write covers, if one starts. -/
theorem stillOwed_uncovered (l : List OwedWrite) :
    (stillOwed l).map (fun w => { w with covered := false }) = stillOwed l := by
  have h : ∀ w ∈ stillOwed l, { w with covered := false } = w := fun w hw => by
    have hc := (List.mem_filter.1 hw).2
    cases w
    simp_all
  rw [List.map_congr_left h, List.map_id']

theorem cover_covered {l : List OwedWrite} : ∀ w ∈ l.map OwedWrite.cover, w.covered = true := by
  intro w hw
  obtain ⟨x, -, rfl⟩ := List.mem_map.1 hw
  rfl

/-- Settles O36: the end of a write is the owners' resolution, the store's outcome, and the next write where
one is pending. -/
theorem retainedWriteCompletes : Obligations.RetainedWriteCompletes := by
  refine ⟨fun s => ⟨requestRewrite_starts, fun h => requestRewrite_writing (Option.isSome_iff_ne_none.2 h)⟩,
    fun fault content s hp => ⟨exec_retainedWriteComplete_idle hp, fun hw hmarks => ?_, fun hw => ?_⟩⟩
  · intro again covered
    refine ⟨_, exec_retainedWriteComplete_ends hp hw, ?_⟩
    obtain ⟨owed, replies, he, ho⟩ := resolveOwners_outcome fault (completeTags_unmarked fault hmarks)
    rw [he, takeWriteOutcome_eq]
    cases hagain : again with
    | false =>
      rw [leaveWriting_idle hagain]
      exact ⟨rfl, ho, rfl, rfl, rfl, hagain, rfl, rfl, fun _ => ⟨rfl, rfl, rfl⟩, fun h => by simp at h⟩
    | true =>
      rw [leaveWriting_again hagain]
      exact ⟨rfl, ho, rfl, rfl, rfl, rfl, rfl, rfl, fun h => by simp at h,
        fun _ => ⟨rfl, rfl, cover_covered, cover_covered⟩⟩
  · intro covered told
    refine ⟨_, exec_retainedWriteComplete_ends hp hw, ?_⟩
    obtain ⟨⟨hmeas, hen, -, hflags⟩, hcab⟩ := completeTags_within fault (s := s) (by simp [hw])
    generalize hu : completeTags fault s = u at hmeas hen hflags hcab
    obtain ⟨owed, replies, he, ho⟩ := resolveOwners_outcome fault hu
    rw [hmeas, hen] at ho
    have huntold : ∀ o, s.cab.owed = some o → ¬ told o.request → u.cab = s.cab := fun o hs ht =>
      hcab fun o' ho' => by rwa [Option.some.inj (ho'.symm.trans hs)]
    have hanswered : ∀ o, s.cab.owed = some o → ¬ told o.request →
        (∃ w ∈ covered, w.request = o.request) →
        owed = none ∧ replies = s.cab.replies ++ [writeReply fault o] := fun o hs ht hc => by
      have hsame := huntold o hs ht
      rw [← hsame] at hs ⊢
      exact (ho o hs).2 hc
    have hkept : ∀ o, s.cab.owed = some o → ¬ told o.request → (∀ w ∈ covered, w.request ≠ o.request) →
        owed = some o ∧ replies = s.cab.replies := fun o hs ht hc => by
      have hsame := huntold o hs ht
      rw [← hsame] at hs ⊢
      exact (ho o hs).1 hc
    rw [he, takeWriteOutcome_eq, hmeas, hen, hflags]
    rcases Bool.eq_false_or_eq_true (u.ret.rewrite || (fault && !u.ret.suspect)) with hagain | hagain
    · rw [leaveWriting_again hagain]
      refine ⟨hanswered, hkept, rfl, ⟨rfl, rfl⟩, ?_⟩
      rintro rfl
      rfl
    · rw [leaveWriting_idle hagain]
      refine ⟨hanswered, hkept, rfl, ⟨(stillOwed_uncovered _).symm, (stillOwed_uncovered _).symm⟩, ?_⟩
      rintro rfl
      rfl

end Sys2Proof.Machine
end
